-- ==== Sys2Proof/Word.lean ====
section
/-! DEFINITION. The two word types of UOVCORE: the byte (one field element) and the 32-bit word. -/
namespace Sys2Proof

/-- One field element, and one OMEM byte (10_state R22, 20_memory R60). -/
abbrev Byte := BitVec 8

/-- A pointer register, a CSR, a command word (10_state R23, R26, 30_encoding R90). -/
abbrev Word := BitVec 32

end Sys2Proof
end

