-- ==== Sys2Proof/Config.lean ====
section
/-! DEFINITION. What an instance of UOVCORE fixes for its life (10_state R48): the constants of 00_scope R6, the open
parameters of R7, and the free values the spec leaves open (93_implementation_defined U1 to U4). -/
namespace Sys2Proof

/-- The open parameters of 00_scope R7. The model carries them in State, so that every statement holds for every
value of them (log 8). -/
structure Params where
  /-- OMEM_SIZE, the bytes of operand memory (20_memory R60). -/
  omemSize : Nat
  /-- KEYGEN_BUDGET, the cap on T draws in one KEYGEN; `none` is INF (43_key_generator R181); for a
  finite cap above 2^32 - 1 see log 22. -/
  keygenBudget : Option Nat
  /-- HOST_BASE, where a platform maps the CSR file, if at all (20_memory R66). -/
  hostBase : Nat
  /-- OMEM_WINDOW_BASE, where a platform maps OMEM, if at all (20_memory R66). -/
  omemWindowBase : Nat
  deriving DecidableEq, Repr

/-- The ranges of 00_scope R7: 1 <= OMEM_SIZE <= 2^32 - 1, and KEYGEN_BUDGET is at least 1 or INF. -/
abbrev Params.Legal (p : Params) : Prop :=
  1 ≤ p.omemSize ∧ p.omemSize ≤ 2 ^ 32 - 1 ∧ 1 ≤ p.keygenBudget.getD 1

/-- DESIGN CHOICE (log 8): the parameters `State.reset` is built with. OMEM_SIZE and KEYGEN_BUDGET are those of the
programs of 95_test_vectors section 4; the two bases are the model's own. -/
def Params.standard : Params where
  omemSize := 0x10000
  keygenBudget := none
  hostBase := 0
  omemWindowBase := 0x400

/-- The read-only constant `ID` (00_scope R2, 10_state R31). -/
def Config.idWord : Word := 0x554F5601#32

/-- The signer's attempt budget, also the CSR `BUDGET` (00_scope R6, 10_state R39). -/
def Config.signBudget : Nat := 1000

/-- The reduction polynomial x^8 + x^4 + x^3 + x^2 + 1 (00_scope R6, 40_field_arithmetic R128). -/
def Config.poly : BitVec 9 := 0x11D#9

/-- FREE VALUE (93 U1, log 4): what OMEM byte `a` holds after the hardware reset number `epoch` until it is written.
No body: any value, the same one at every read. -/
opaque Config.powerOnByte (epoch a : Nat) : Byte

/-- FREE VALUE (93 U2, U3, logs 5 and 6): the `k`-th unspecified byte the machine has produced. -/
opaque Config.freeByte (k : Nat) : Byte

/-- FREE VALUE (93 U4, log 7): how many RNG bytes the abandoned command number `k` had drawn, before its bound is
applied. -/
opaque Config.abandonedDraws (k : Nat) : Nat

end Sys2Proof
end

