-- ==== Sys2Proof/Machine/Field.lean ====
section
/-! DEFINITION. The four field functions over GF(2^8) modulo 0x11D (40_field_arithmetic R120 to R123) and the xor sum
of 00_scope R10. -/
namespace Sys2Proof.Machine

/-- R120: addition is xor. -/
def fadd (a b : Byte) : Byte := a ^^^ b

/-- R121: subtraction is addition. -/
def fsub (a b : Byte) : Byte := a ^^^ b

/-- The working value `aa` after one iteration of R122: shifted left on 9 bits, reduced if bit 8 came out. -/
def fmulShift (aa : BitVec 9) : BitVec 9 :=
  if (aa <<< 1).getLsbD 8 then (aa <<< 1) ^^^ Config.poly else aa <<< 1

/-- The iterations of R122. -/
def fmulLoop : Nat → Byte → BitVec 9 → Byte → Byte
  | 0, acc, _, _ => acc
  | k + 1, acc, aa, bb =>
    fmulLoop k (if bb.getLsbD 0 then acc ^^^ aa.setWidth 8 else acc) (fmulShift aa) (bb >>> 1)

/-- R122: carry-less multiplication reduced modulo 0x11D, 8 iterations. -/
def fmul (a b : Byte) : Byte := fmulLoop 8 0#8 (a.setWidth 9) b

/-- `a` to the power 2^k, by squaring. -/
def fpow2 : Nat → Byte → Byte
  | 0, a => a
  | k + 1, a => fpow2 k (fmul a a)

/-- R123: the inverse, as the power a^254 = a^2 · a^4 · ... · a^128 that R123 names as a correct implementation
(log 9). At 0, which has no inverse, no command uses the value. -/
def finv (a : Byte) : Byte :=
  fmul (fpow2 1 a) (fmul (fpow2 2 a) (fmul (fpow2 3 a) (fmul (fpow2 4 a) (fmul (fpow2 5 a)
    (fmul (fpow2 6 a) (fpow2 7 a))))))

/-- R10: the xor of `e 0, ..., e (k - 1)`, and 0 when k = 0. -/
def xorUpTo : Nat → (Nat → Byte) → Byte
  | 0, _ => 0#8
  | k + 1, e => xorUpTo k e ^^^ e k

end Sys2Proof.Machine
end

