-- ==== Sys2Proof/Machine/LinearAlgebra.lean ====
section
/-! DEFINITION. Vectors, matrices, `matvec` and `minv` (41_linear_algebra R140, R141). These are local values of a
command, never state (10_state R45). -/
namespace Sys2Proof.Machine

/-- A vector of field elements (00_scope R10). -/
abbrev Vec := List Byte

/-- A matrix of field elements, a list of rows (00_scope R10). -/
abbrev Mat := List Vec

/-- Element i of a vector (R10). Only indices below the length are ever used by a rule. -/
def vecAt (x : Vec) (i : Nat) : Byte := x.getD i 0#8

/-- Row i of a matrix. -/
def matRow (m : Mat) (i : Nat) : Vec := m.getD i []

/-- `M[i][j]` (R10). -/
def matAt (m : Mat) (i j : Nat) : Byte := vecAt (matRow m i) j

/-- The vector of length k with the given elements. -/
def vecOf (k : Nat) (e : Nat → Byte) : Vec := (List.range k).map e

/-- The r by c matrix with the given elements. -/
def matOf (r c : Nat) (e : Nat → Nat → Byte) : Mat := (List.range r).map (fun i => vecOf c (e i))

/-- R140: `matvec(M, x)` for M with r rows and c columns. -/
def matvec (r c : Nat) (m : Mat) (x : Vec) : Vec :=
  vecOf r (fun i => xorUpTo c (fun j => fmul (matAt m i j) (vecAt x j)))

/-- R141: `identity(k)`. -/
def identityMat (k : Nat) : Mat := matOf k k (fun i j => if i = j then 0x01#8 else 0x00#8)

/-- R141: the least r with c <= r < k and W[r][c] != 0. -/
def pivotRow (k c : Nat) (w : Mat) : Option Nat :=
  (List.range k).find? (fun r => decide (c ≤ r) && (matAt w r c != 0x00#8))

/-- R141: swap rows p and c. -/
def swapRows (k p c : Nat) (m : Mat) : Mat :=
  (List.range k).map (fun r => if r = p then matRow m c else if r = c then matRow m p else matRow m r)

/-- R141: scale row c by s. -/
def scaleRow (k c : Nat) (s : Byte) (m : Mat) : Mat :=
  (List.range k).map (fun r => if r = c then (matRow m r).map (fmul s) else matRow m r)

/-- R141: from every row r other than c, subtract `f r` times row c. -/
def clearRows (k c : Nat) (f : Nat → Byte) (m : Mat) : Mat :=
  (List.range k).map (fun r => if r = c then matRow m r
    else List.zipWith (fun x y => fsub x (fmul (f r) y)) (matRow m r) (matRow m c))

/-- R141: the work on pivot column c; `none` is `Singular`. -/
def gaussColumn (k c : Nat) (w e : Mat) : Option (Mat × Mat) :=
  match pivotRow k c w with
  | none => none
  | some p =>
    let w1 := swapRows k p c w
    let e1 := swapRows k p c e
    let s := finv (matAt w1 c c)
    let w2 := scaleRow k c s w1
    let e2 := scaleRow k c s e1
    let f := fun r => matAt w2 r c
    some (clearRows k c f w2, clearRows k c f e2)

/-- R141: the pivot columns c, c + 1, ..., `left` of them. -/
def gaussLoop (k : Nat) : Nat → Nat → Mat → Mat → Option (Mat × Mat)
  | 0, _, w, e => some (w, e)
  | left + 1, c, w, e =>
    match gaussColumn k c w e with
    | none => none
    | some (w', e') => gaussLoop k left (c + 1) w' e'

/-- R141: `minv(M)` for M of order k; `none` is `Singular`. -/
def minv (k : Nat) (m : Mat) : Option Mat :=
  (gaussLoop k k 0 m (identityMat k)).map (fun we => we.2)

/-- 42 R163, 43 R182, 20_memory R64: the matrix whose elements are the given bytes, row-major. -/
def matOfBytes (r c : Nat) (bytes : List Byte) : Mat := matOf r c (fun i j => bytes.getD (i * c + j) 0#8)

/-- 20_memory R64: the r*c elements of a matrix, row-major: byte i*c + j is `M[i][j]`. -/
def bytesOfMat (r c : Nat) (m : Mat) : List Byte := vecOf (r * c) (fun k => matAt m (k / c) (k % c))

end Sys2Proof.Machine
end

