-- ==== Sys2Proof/Machine/CentralMap.lean ====
section
/-! DEFINITION. Central-map polynomials, their evaluation, and the vinegar system built from them (42_central_map R160 to
R167, 44_signer R193, R195, 45_verifier R221). -/
namespace Sys2Proof.Machine

/-- R160: a central-map polynomial; it has no oil by oil part. -/
structure Poly where
  vv : Mat
  vo : Mat
  lin : Vec
  const : Byte
  deriving DecidableEq, Repr

/-- 20_memory R65: PSZ = v*v + v*o + n + 1 with o = n - v. -/
def polySize (n v : Nat) : Nat := v * v + v * (n - v) + n + 1

/-- 20_memory R65: the polynomial whose record is the given bytes. -/
def polyOfBytes (n v : Nat) (bytes : List Byte) : Poly where
  vv := matOfBytes v v bytes
  vo := matOfBytes v (n - v) (bytes.drop (v * v))
  lin := vecOf n (fun k => bytes.getD (v * v + v * (n - v) + k) 0#8)
  const := bytes.getD (v * v + v * (n - v) + n) 0#8

/-- 20_memory R65: the central map of m records back to back. -/
def mapOfBytes (n v m : Nat) (bytes : List Byte) : List Poly :=
  (List.range m).map (fun i => polyOfBytes n v (bytes.drop (i * polySize n v)))

/-- R161: `evaluate(poly, x, v)`, o = n - v. -/
def evaluate (n v : Nat) (q : Poly) (x : Vec) : Byte :=
  q.const
    ^^^ xorUpTo v (fun i => xorUpTo v (fun j => fmul (fmul (matAt q.vv i j) (vecAt x i)) (vecAt x j)))
    ^^^ xorUpTo v (fun i => xorUpTo (n - v) (fun j => fmul (fmul (matAt q.vo i j) (vecAt x i)) (vecAt x (v + j))))
    ^^^ xorUpTo n (fun k => fmul (vecAt q.lin k) (vecAt x k))

/-- R162: `evaluateAll(F, x, v)`. -/
def evaluateAll (n v : Nat) (f : List Poly) (x : Vec) : Vec := f.map (fun q => evaluate n v q x)

/-- R167: what the vinegar values alone contribute. -/
def vinpart (v : Nat) (q : Poly) (xv : Vec) : Byte :=
  q.const
    ^^^ xorUpTo v (fun i => xorUpTo v (fun k => fmul (fmul (matAt q.vv i k) (vecAt xv i)) (vecAt xv k)))
    ^^^ xorUpTo v (fun i => fmul (vecAt q.lin i) (vecAt xv i))

/-- R167: the coefficient of oil variable j once the vinegar values are fixed. -/
def coef (v : Nat) (q : Poly) (xv : Vec) (j : Nat) : Byte :=
  xorUpTo v (fun i => fmul (matAt q.vo i j) (vecAt xv i)) ^^^ vecAt q.lin (v + j)

/-- 44_signer R193: the matrix A (m rows, o = m columns) of `buildsys(F, xv, t)`. -/
def sysMat (v m : Nat) (f : List Poly) (xv : Vec) : Mat := f.map (fun q => vecOf m (fun j => coef v q xv j))

/-- 44_signer R193: the vector b of `buildsys(F, xv, t)`. -/
def sysVec (v : Nat) (f : List Poly) (xv t : Vec) : Vec :=
  List.zipWith (fun q ti => fsub ti (vinpart v q xv)) f t

/-- 44_signer R195: `sigma` from the inverse of A, b, xv and T inverse. -/
def signature (n m : Nat) (ainv : Mat) (b xv : Vec) (tinv : Mat) : Vec :=
  matvec n n tinv (xv ++ matvec m m ainv b)

/-- 45_verifier R221: `verify(F, T, t, sigma)`. -/
def verifySig (n v : Nat) (f : List Poly) (t : Mat) (tgt sigma : Vec) : Bool :=
  decide (evaluateAll n v f (matvec n n t sigma) = tgt)

end Sys2Proof.Machine
end

