-- ==== Sys2Proof/Syntax.lean ====
section
/-! DEFINITION. The 25 commands of UOVCORE (30_encoding R94), one constructor each, operands in the order f5, f4, f3,
f2, f1 of that table, and the pseudo-instructions of R100. -/
namespace Sys2Proof

/-- The number of a field register G0 .. G15 (10_state R22). -/
abbrev GReg := Fin 16

/-- The number of a pointer register P0 .. P15 (10_state R23). -/
abbrev PReg := Fin 16

/-- A command (30_encoding R94). -/
inductive Instr where
  /-- `NOP` (R230). -/
  | nop
  /-- `GLI Gd, imm8` (R231). -/
  | gli (gd : GReg) (imm8 : BitVec 8)
  /-- `GMV Gd, Ga` (R232). -/
  | gmv (gd ga : GReg)
  /-- `GLD Gd, Pa, imm12` (R233). -/
  | gld (gd : GReg) (pa : PReg) (imm12 : BitVec 12)
  /-- `GST Gs, Pa, imm12` (R234). -/
  | gst (gs : GReg) (pa : PReg) (imm12 : BitVec 12)
  /-- `PLI Pd, imm16` (R235). -/
  | pli (pd : PReg) (imm16 : BitVec 16)
  /-- `PLUI Pd, imm16` (R236). -/
  | plui (pd : PReg) (imm16 : BitVec 16)
  /-- `PADDI Pd, Pa, simm12` (R237). -/
  | paddi (pd pa : PReg) (simm12 : BitVec 12)
  /-- `PMV Pd, Pa` (R238). -/
  | pmv (pd pa : PReg)
  /-- `CSRW csr, imm16` (R239). -/
  | csrw (csr : BitVec 8) (imm16 : BitVec 16)
  /-- `FADD Gd, Ga, Gb` (R124). -/
  | fadd (gd ga gb : GReg)
  /-- `FSUB Gd, Ga, Gb` (R125). -/
  | fsub (gd ga gb : GReg)
  /-- `FMUL Gd, Ga, Gb` (R126). -/
  | fmul (gd ga gb : GReg)
  /-- `FINV Gd, Ga` (R127). -/
  | finv (gd ga : GReg)
  /-- `MVMUL Pd, Pm, Pv`: dest vector, matrix, vector (R144). -/
  | mvmul (pd pm pv : PReg)
  /-- `MINV Pd, Pm`: dest matrix, matrix (R145). -/
  | minv (pd pm : PReg)
  /-- `MSOLVE Pd, Pm, Pb`: dest vector, matrix, right-hand side (R146). -/
  | msolve (pd pm pb : PReg)
  /-- `FGEN Pf`: dest central map (R164). -/
  | fgen (pf : PReg)
  /-- `PEVAL Gd, Pp, Px`: dest register, polynomial record, input vector (R165). -/
  | peval (gd : GReg) (pp px : PReg)
  /-- `PEVALA Pd, Pf, Px`: dest vector, central map, input vector (R166). -/
  | pevala (pd pf px : PReg)
  /-- `KEYGEN Pf, Pt, Pi`: dest F, dest T, dest T inverse (R182). -/
  | keygen (pf pt pi : PReg)
  /-- `DRAWV Pd`: dest vinegar vector (R192). -/
  | drawv (pd : PReg)
  /-- `BUILDSYS Pa, Pb, Pf, Px, Pt`: dest A, dest b, central map, vinegar vector, target (R194). -/
  | buildsys (pa pb pf px pt : PReg)
  /-- `SIGN Ps, Pf, Pi, Pt`: dest signature, central map, T inverse, target (R196). -/
  | sign (ps pf pi pt : PReg)
  /-- `VERIFY Pf, Pm, Pt, Ps`: central map, T, target, signature (R220). -/
  | verify (pf pm pt ps : PReg)
  deriving DecidableEq, Repr

/-- The pseudo-instructions of 30_encoding R100. -/
inductive Pseudo where
  /-- `PLA Pd, imm32`. -/
  | pla (pd : PReg) (imm32 : Word)
  /-- `GCLR Gd`. -/
  | gclr (gd : GReg)
  /-- `FNEG Gd, Ga`. -/
  | fneg (gd ga : GReg)
  /-- `FSQR Gd, Ga`. -/
  | fsqr (gd ga : GReg)
  /-- `SETDIM n, v, m`. -/
  | setdim (n v m : BitVec 16)
  /-- `SETLA r, c`. -/
  | setla (r c : BitVec 16)
  deriving DecidableEq, Repr

end Sys2Proof
end

