-- ==== Sys2Proof/Decode.lean ====
section
/-! DEFINITION. The command word of UOVCORE (30_encoding): its fields (R90), the decoder (R91, R94, R101), the encoder,
and the table of match and mask values of R94. -/
namespace Sys2Proof

/-- The split of a command word into an opcode and six 4-bit fields (R90). -/
structure Fields where
  op : BitVec 8
  f5 : BitVec 4
  f4 : BitVec 4
  f3 : BitVec 4
  f2 : BitVec 4
  f1 : BitVec 4
  f0 : BitVec 4
  deriving DecidableEq, Repr

/-- R90: op = w[31:24], f5 = w[23:20], ..., f0 = w[3:0]. -/
def splitWord (w : Word) : Fields where
  op := w.extractLsb' 24 8
  f5 := w.extractLsb' 20 4
  f4 := w.extractLsb' 16 4
  f3 := w.extractLsb' 12 4
  f2 := w.extractLsb' 8 4
  f1 := w.extractLsb' 4 4
  f0 := w.extractLsb' 0 4

/-- The word with the given fields (R90), `op` in the high bits. -/
def joinWord (f : Fields) : Word :=
  f.op ++ (f.f5 ++ (f.f4 ++ (f.f3 ++ (f.f2 ++ (f.f1 ++ f.f0)))))

/-- A 4-bit register field names register G or P number its unsigned value (R90). -/
def regOfField (x : BitVec 4) : Fin 16 := x.toFin

/-- The 4-bit field that names a register (R90). -/
def fieldOfReg (r : Fin 16) : BitVec 4 := BitVec.ofFin r

/-- imm8 = f1 ‖ f0 (R90). -/
def Fields.imm8 (f : Fields) : BitVec 8 := f.f1 ++ f.f0

/-- imm12 = f2 ‖ f1 ‖ f0 (R90). -/
def Fields.imm12 (f : Fields) : BitVec 12 := f.f2 ++ (f.f1 ++ f.f0)

/-- imm16 = f3 ‖ f2 ‖ f1 ‖ f0 (R90). -/
def Fields.imm16 (f : Fields) : BitVec 16 := f.f3 ++ (f.f2 ++ (f.f1 ++ f.f0))

/-- csr = f5 ‖ f4 (R90). -/
def Fields.csr (f : Fields) : BitVec 8 := f.f5 ++ f.f4

/-- The decoded command if every must-be-zero field is zero; otherwise the word is illegal (R95). -/
def ifZero (mustBeZero : List (BitVec 4)) (i : Instr) : Option Instr :=
  if mustBeZero.all (fun x => x == 0#4) then some i else none

/-- One arm per row of R94: the opcode, the must-be-zero fields of the row's format (R91, R95), the operands. `none`
is an illegal word (R96). -/
def decodeFields (f : Fields) : Option Instr :=
  match f.op.toNat with
  | 0x00 => ifZero [f.f5, f.f4, f.f3, f.f2, f.f1, f.f0] .nop
  | 0x01 => ifZero [f.f4, f.f3, f.f2] (.gli (regOfField f.f5) f.imm8)
  | 0x02 => ifZero [f.f3, f.f2, f.f1, f.f0] (.gmv (regOfField f.f5) (regOfField f.f4))
  | 0x03 => ifZero [f.f3] (.gld (regOfField f.f5) (regOfField f.f4) f.imm12)
  | 0x04 => ifZero [f.f3] (.gst (regOfField f.f5) (regOfField f.f4) f.imm12)
  | 0x05 => ifZero [f.f4] (.pli (regOfField f.f5) f.imm16)
  | 0x06 => ifZero [f.f4] (.plui (regOfField f.f5) f.imm16)
  | 0x07 => ifZero [f.f3] (.paddi (regOfField f.f5) (regOfField f.f4) f.imm12)
  | 0x08 => ifZero [f.f3, f.f2, f.f1, f.f0] (.pmv (regOfField f.f5) (regOfField f.f4))
  | 0x09 => ifZero [] (.csrw f.csr f.imm16)
  | 0x10 => ifZero [f.f2, f.f1, f.f0] (.fadd (regOfField f.f5) (regOfField f.f4) (regOfField f.f3))
  | 0x11 => ifZero [f.f2, f.f1, f.f0] (.fsub (regOfField f.f5) (regOfField f.f4) (regOfField f.f3))
  | 0x12 => ifZero [f.f2, f.f1, f.f0] (.fmul (regOfField f.f5) (regOfField f.f4) (regOfField f.f3))
  | 0x13 => ifZero [f.f3, f.f2, f.f1, f.f0] (.finv (regOfField f.f5) (regOfField f.f4))
  | 0x20 => ifZero [f.f2, f.f1, f.f0] (.mvmul (regOfField f.f5) (regOfField f.f4) (regOfField f.f3))
  | 0x21 => ifZero [f.f3, f.f2, f.f1, f.f0] (.minv (regOfField f.f5) (regOfField f.f4))
  | 0x22 => ifZero [f.f2, f.f1, f.f0] (.msolve (regOfField f.f5) (regOfField f.f4) (regOfField f.f3))
  | 0x30 => ifZero [f.f4, f.f3, f.f2, f.f1, f.f0] (.fgen (regOfField f.f5))
  | 0x31 => ifZero [f.f2, f.f1, f.f0] (.peval (regOfField f.f5) (regOfField f.f4) (regOfField f.f3))
  | 0x32 => ifZero [f.f2, f.f1, f.f0] (.pevala (regOfField f.f5) (regOfField f.f4) (regOfField f.f3))
  | 0x40 => ifZero [f.f2, f.f1, f.f0] (.keygen (regOfField f.f5) (regOfField f.f4) (regOfField f.f3))
  | 0x50 => ifZero [f.f4, f.f3, f.f2, f.f1, f.f0] (.drawv (regOfField f.f5))
  | 0x51 => ifZero [f.f0] (.buildsys (regOfField f.f5) (regOfField f.f4) (regOfField f.f3) (regOfField f.f2) (regOfField f.f1))
  | 0x52 => ifZero [f.f1, f.f0] (.sign (regOfField f.f5) (regOfField f.f4) (regOfField f.f3) (regOfField f.f2))
  | 0x60 => ifZero [f.f1, f.f0] (.verify (regOfField f.f5) (regOfField f.f4) (regOfField f.f3) (regOfField f.f2))
  | _ => none

/-- R101: decoding is total on all 2^32 words; `none` is an illegal word (R96). -/
def decode (w : Word) : Option Instr := decodeFields (splitWord w)

/-- The fixed name the host reads the decoder by: one command is one 32-bit word (R90, R98), handed over whole. -/
def decodeTableWord (nbits w : Nat) : Option Instr := decode (BitVec.ofNat 32 (w % 2 ^ nbits))

/-- The fields f3, f2, f1, f0 that hold a 16-bit immediate (R93). -/
def fieldsImm16 (op : BitVec 8) (f5 f4 : BitVec 4) (imm : BitVec 16) : Fields where
  op := op
  f5 := f5
  f4 := f4
  f3 := imm.extractLsb' 12 4
  f2 := imm.extractLsb' 8 4
  f1 := imm.extractLsb' 4 4
  f0 := imm.extractLsb' 0 4

/-- The fields f2, f1, f0 that hold a 12-bit immediate, f3 zero (R93). -/
def fieldsImm12 (op : BitVec 8) (f5 f4 : BitVec 4) (imm : BitVec 12) : Fields where
  op := op
  f5 := f5
  f4 := f4
  f3 := 0
  f2 := imm.extractLsb' 8 4
  f1 := imm.extractLsb' 4 4
  f0 := imm.extractLsb' 0 4

/-- The fields of a command whose operands are registers only, unused ones zero (R91). -/
def fieldsRegs (op : BitVec 8) (f5 f4 f3 f2 f1 : BitVec 4) : Fields where
  op := op
  f5 := f5
  f4 := f4
  f3 := f3
  f2 := f2
  f1 := f1
  f0 := 0

/-- The fields of a command (R91, R94). -/
def encodeFields : Instr → Fields
  | .nop => fieldsRegs 0x00 0 0 0 0 0
  | .gli d imm => ⟨0x01, fieldOfReg d, 0, 0, 0, imm.extractLsb' 4 4, imm.extractLsb' 0 4⟩
  | .gmv d a => fieldsRegs 0x02 (fieldOfReg d) (fieldOfReg a) 0 0 0
  | .gld d a imm => fieldsImm12 0x03 (fieldOfReg d) (fieldOfReg a) imm
  | .gst s a imm => fieldsImm12 0x04 (fieldOfReg s) (fieldOfReg a) imm
  | .pli d imm => fieldsImm16 0x05 (fieldOfReg d) 0 imm
  | .plui d imm => fieldsImm16 0x06 (fieldOfReg d) 0 imm
  | .paddi d a imm => fieldsImm12 0x07 (fieldOfReg d) (fieldOfReg a) imm
  | .pmv d a => fieldsRegs 0x08 (fieldOfReg d) (fieldOfReg a) 0 0 0
  | .csrw csr imm => fieldsImm16 0x09 (csr.extractLsb' 4 4) (csr.extractLsb' 0 4) imm
  | .fadd d a b => fieldsRegs 0x10 (fieldOfReg d) (fieldOfReg a) (fieldOfReg b) 0 0
  | .fsub d a b => fieldsRegs 0x11 (fieldOfReg d) (fieldOfReg a) (fieldOfReg b) 0 0
  | .fmul d a b => fieldsRegs 0x12 (fieldOfReg d) (fieldOfReg a) (fieldOfReg b) 0 0
  | .finv d a => fieldsRegs 0x13 (fieldOfReg d) (fieldOfReg a) 0 0 0
  | .mvmul d m v => fieldsRegs 0x20 (fieldOfReg d) (fieldOfReg m) (fieldOfReg v) 0 0
  | .minv d m => fieldsRegs 0x21 (fieldOfReg d) (fieldOfReg m) 0 0 0
  | .msolve d m b => fieldsRegs 0x22 (fieldOfReg d) (fieldOfReg m) (fieldOfReg b) 0 0
  | .fgen f => fieldsRegs 0x30 (fieldOfReg f) 0 0 0 0
  | .peval d p x => fieldsRegs 0x31 (fieldOfReg d) (fieldOfReg p) (fieldOfReg x) 0 0
  | .pevala d f x => fieldsRegs 0x32 (fieldOfReg d) (fieldOfReg f) (fieldOfReg x) 0 0
  | .keygen f t i => fieldsRegs 0x40 (fieldOfReg f) (fieldOfReg t) (fieldOfReg i) 0 0
  | .drawv d => fieldsRegs 0x50 (fieldOfReg d) 0 0 0 0
  | .buildsys a b f x t => fieldsRegs 0x51 (fieldOfReg a) (fieldOfReg b) (fieldOfReg f) (fieldOfReg x) (fieldOfReg t)
  | .sign s f i t => fieldsRegs 0x52 (fieldOfReg s) (fieldOfReg f) (fieldOfReg i) (fieldOfReg t) 0
  | .verify f m t s => fieldsRegs 0x60 (fieldOfReg f) (fieldOfReg m) (fieldOfReg t) (fieldOfReg s) 0

/-- The command word of a command (R90, R94). -/
def encode (i : Instr) : Word := joinWord (encodeFields i)

/-- The seven CSR indices 0x06 .. 0x0C that CSRW may write, all 8-bit fields (46 R239). -/
def isShapeCsr (csr : BitVec 8) : Bool := decide (6 ≤ csr.toNat) && decide (csr.toNat ≤ 12)

/-- A row of R94: `w` encodes the command iff `(w and mask) = pattern`. -/
structure OpcodeRow where
  pattern : Word
  mask : Word
  deriving DecidableEq, Repr

/-- Does the word match the row (R94, R101)? -/
def OpcodeRow.isMatch (r : OpcodeRow) (w : Word) : Bool := w &&& r.mask == r.pattern

/-- The `match` and `mask` columns of R94, in the table's order. -/
def opcodeRows : List OpcodeRow :=
  [⟨0x00000000, 0xFFFFFFFF⟩, ⟨0x01000000, 0xFF0FFF00⟩, ⟨0x02000000, 0xFF00FFFF⟩, ⟨0x03000000, 0xFF00F000⟩,
   ⟨0x04000000, 0xFF00F000⟩, ⟨0x05000000, 0xFF0F0000⟩, ⟨0x06000000, 0xFF0F0000⟩, ⟨0x07000000, 0xFF00F000⟩,
   ⟨0x08000000, 0xFF00FFFF⟩, ⟨0x09000000, 0xFF000000⟩] ++
  [⟨0x10000000, 0xFF000FFF⟩, ⟨0x11000000, 0xFF000FFF⟩, ⟨0x12000000, 0xFF000FFF⟩, ⟨0x13000000, 0xFF00FFFF⟩,
   ⟨0x20000000, 0xFF000FFF⟩, ⟨0x21000000, 0xFF00FFFF⟩, ⟨0x22000000, 0xFF000FFF⟩] ++
  [⟨0x30000000, 0xFF0FFFFF⟩, ⟨0x31000000, 0xFF000FFF⟩, ⟨0x32000000, 0xFF000FFF⟩, ⟨0x40000000, 0xFF000FFF⟩,
   ⟨0x50000000, 0xFF0FFFFF⟩, ⟨0x51000000, 0xFF00000F⟩, ⟨0x52000000, 0xFF0000FF⟩, ⟨0x60000000, 0xFF0000FF⟩]

end Sys2Proof
end

