-- ==== Sys2Proof/Machine/State.lean ====
section
/-! DEFINITION. The architectural state of one UOVCORE instance (10_state R20) as plain data, with the inputs that the
outside world still has in store (00_scope R14), and its value after the hardware reset (R49). -/
namespace Sys2Proof.Machine

/-- `STATUS.PHASE` (10_state R33): the signer's state machine. The code 7 is never produced. -/
inductive Phase where
  | idle | drawVinegar | buildSystem | solve | retry | success | failure
  deriving DecidableEq, Repr

/-- The eight errors of 60_exceptions R260. -/
inductive ErrorKind where
  | dimension | singularMatrix | signingExhausted | fieldInverse | format | illegalCommand | addressRange
  | keygenExhausted
  deriving DecidableEq, Repr

/-- The four HOST transactions (10_state R21). -/
inductive HostTx where
  /-- `HostCsrRead(idx)`. -/
  | csrRead (idx : BitVec 8)
  /-- `HostCsrWrite(idx, w)`. -/
  | csrWrite (idx : BitVec 8) (w : Word)
  /-- `HostMemRead(addr)`. -/
  | memRead (addr : Nat)
  /-- `HostMemWrite(addr, b)`. -/
  | memWrite (addr : Nat) (b : Byte)
  deriving DecidableEq, Repr

/-- What the HOST port answers to a read (10_state R21). -/
inductive HostAnswer where
  | csr (w : Word)
  | mem (b : Byte)
  /-- The word a platform bus hands on for a read of OMEM (20_memory R62, log 12). -/
  | bus (w : Word)
  deriving DecidableEq, Repr

/-- The width of a platform bus access (20_memory R62). -/
inductive BusWidth where
  | byte | half | word
  deriving DecidableEq, Repr

/-- An access on a platform bus that maps the block (20_memory R62, R66); `data` is `none` for a read. -/
structure BusAccess where
  addr : Nat
  width : BusWidth
  data : Option Word
  deriving DecidableEq, Repr

/-- What can happen next (00_scope R14): a step of the host, of the RNG source, of the engine, or the reset input. -/
inductive Event where
  /-- One HOST transaction. -/
  | host (t : HostTx)
  /-- A platform bus access, which stands for HOST transactions (20_memory R66, log 12). -/
  | bus (a : BusAccess)
  /-- The platform bus answers a read of OMEM of that width with the bytes just read (20_memory R62, log 12). -/
  | busAnswer (width : BusWidth)
  /-- The RNG source offers its next byte (10_state R47, log 3). -/
  | rngByte (b : Byte)
  /-- The engine runs the command in flight to its end, or to its wait for an RNG byte (60 R264). -/
  | engine
  /-- The engine passes one point of SIGN or KEYGEN that the host can see (44_signer R197, log 2). -/
  | progress
  /-- A `STATUS` write that coincides with the end of the command in flight (70 R312, log 11). -/
  | statusWriteAtEnd (w : Word)
  /-- The RESET input is asserted (70 R300). -/
  | hardwareReset
  deriving DecidableEq, Repr

/-- The machine stops with a fault. Every error of the block is a latch and a NEXT state (60 R270): no command and no
HOST transaction ends in one of these. -/
inductive Fault where
  /-- Raised by a platform bus access to an address where neither the CSR file nor OMEM appears (20_memory R66): no
  HOST transaction corresponds to it. SAFE: the model stops where a platform would do something of its own. -/
  | busUnmapped
  deriving DecidableEq, Repr

/-- The model gives no meaning. -/
inductive Refusal where
  /-- Raised by an arm of `exec` for a command that has no meaning yet; no arm raises it. SAFE. -/
  | notModelled (mnemonic : String)
  /-- Raised by a platform bus access to the CSR file that is not an aligned 32-bit word: "outside this spec (the
  platform must refuse it)" (20_memory R67). SAFE. -/
  | busCsrNotWord
  deriving DecidableEq, Repr

/-- The state of one instance (10_state R20, R27), with the model's own fields last. -/
structure State where
  /-- The open parameters, constant (00_scope R7, 10_state R48). -/
  params : Params
  /-- G0 .. G15 (10_state R22). -/
  g : Vector Byte 16
  /-- P0 .. P15 (10_state R23). -/
  p : Vector Word 16
  /-- `CTRL.IE_DONE` (10_state R32). -/
  ieDone : Bool
  /-- `CTRL.IE_ERR` (10_state R32). -/
  ieErr : Bool
  /-- `STATUS.BUSY` (10_state R33). -/
  busy : Bool
  /-- `STATUS.DONE` (10_state R33). -/
  done : Bool
  /-- `STATUS.ERR` (10_state R33). -/
  err : Bool
  /-- `STATUS.VALID` (10_state R33). -/
  valid : Bool
  /-- `STATUS.HAZ` (10_state R33). -/
  haz : Bool
  /-- `STATUS.PHASE` (10_state R33). -/
  phase : Phase
  /-- `ERRCODE` (10_state R34). -/
  errcode : BitVec 4
  /-- `ERRINFO` (10_state R34). -/
  errinfo : Word
  /-- `CMD`, the last accepted word, the command in flight while BUSY (10_state R41). -/
  cmd : Word
  /-- `DIM_N` (10_state R35). -/
  dimN : BitVec 8
  /-- `DIM_V` (10_state R35). -/
  dimV : BitVec 8
  /-- `DIM_M` (10_state R35). -/
  dimM : BitVec 8
  /-- `LA_ROWS` (10_state R36). -/
  laRows : BitVec 8
  /-- `LA_COLS` (10_state R36). -/
  laCols : BitVec 8
  /-- `SIG_LEN` (10_state R37). -/
  sigLen : BitVec 8
  /-- `TGT_LEN` (10_state R37). -/
  tgtLen : BitVec 8
  /-- `ATTEMPT` (10_state R38). -/
  attempt : Word
  /-- The OMEM bytes written since the hardware reset (10_state R44), by strictly rising address (log 4). -/
  omem : List Host.Cell
  /-- How far the command in flight has got, hidden (10_state R46, log 2). -/
  progress : Nat
  /-- The RNG bytes offered and not consumed, in stream order (10_state R47, log 3). -/
  rng : List Byte
  /-- Model's own: how many hardware resets there have been (log 4). -/
  omemEpoch : Nat
  /-- Model's own: how many free values have been used (log 5). -/
  freeCount : Nat
  /-- Model's own: the answers of the HOST port, newest first (log 15). -/
  answers : List HostAnswer
  /-- Model's own: the events still to happen, in order (log 1). -/
  agenda : List Event
  deriving DecidableEq, Repr

/-- The state after the hardware reset (10_state R49) of an instance with the given parameters. -/
def State.resetWith (params : Params) : State where
  params := params
  g := Vector.replicate 16 0x00#8
  p := Vector.replicate 16 0x00000000#32
  ieDone := false
  ieErr := false
  busy := false
  done := false
  err := false
  valid := false
  haz := false
  phase := .idle
  errcode := 0#4
  errinfo := 0#32
  cmd := 0#32
  dimN := 0#8
  dimV := 0#8
  dimM := 0#8
  laRows := 0#8
  laCols := 0#8
  sigLen := 0#8
  tgtLen := 0#8
  attempt := 0#32
  omem := []
  progress := 0
  rng := []
  omemEpoch := 0
  freeCount := 0
  answers := []
  agenda := []

/-- The machine right after the hardware reset (10_state R49), with the parameters of log 8. -/
def State.reset : State := State.resetWith Params.standard

/-- The outcome of one step of this machine. -/
abbrev Out := Host.Outcome State Fault Refusal

end Sys2Proof.Machine
end

