-- ==== Sys2Proof/Machine/Flags.lean ====
section
/-! DEFINITION. The flags of `STATUS` and `CTRL`: their codes, the words the host reads, the W1C write, and `irq`
(10_state R25, R32, R33, 60_exceptions R260, R275, R280). -/
namespace Sys2Proof.Machine

/-- The PHASE values of 10_state R33. -/
def Phase.code : Phase → BitVec 3
  | .idle => 0
  | .drawVinegar => 1
  | .buildSystem => 2
  | .solve => 3
  | .retry => 4
  | .success => 5
  | .failure => 6

/-- The error codes of 60_exceptions R260. -/
def ErrorKind.code : ErrorKind → BitVec 4
  | .dimension => 1
  | .singularMatrix => 2
  | .signingExhausted => 3
  | .fieldInverse => 4
  | .format => 5
  | .illegalCommand => 6
  | .addressRange => 7
  | .keygenExhausted => 8

/-- `CTRL` as the host reads it (10_state R32): IE_DONE bit 0, IE_ERR bit 1, reserved bits and SRST read 0. -/
def State.ctrlWord (s : State) : Word := 0#30 ++ (BitVec.ofBool s.ieErr ++ BitVec.ofBool s.ieDone)

/-- `STATUS` as the host reads it (10_state R33): BUSY 0, DONE 1, ERR 2, VALID 3, HAZ 4, PHASE 10:8, the rest 0. -/
def State.statusWord (s : State) : Word :=
  0#21 ++ (s.phase.code ++ (0#3 ++ (BitVec.ofBool s.haz ++ (BitVec.ofBool s.valid ++
    (BitVec.ofBool s.err ++ (BitVec.ofBool s.done ++ BitVec.ofBool s.busy))))))

/-- A host write of `STATUS`: W1C of DONE, ERR, HAZ; clearing ERR clears ERRCODE and ERRINFO, and does nothing when
ERR is 0 (10_state R33, 60_exceptions R275). -/
def writeStatus (w : Word) (s : State) : State :=
  let clearErr := s.err && w.getLsbD 2
  { s with
    done := s.done && !w.getLsbD 1
    err := s.err && !w.getLsbD 2
    haz := s.haz && !w.getLsbD 4
    errcode := if clearErr then 0#4 else s.errcode
    errinfo := if clearErr then 0#32 else s.errinfo }

/-- The two enables of a host write of `CTRL` with SRST = 0 (10_state R32). -/
def writeEnables (w : Word) (s : State) : State := { s with ieDone := w.getLsbD 0, ieErr := w.getLsbD 1 }

/-- The interrupt output, a level (60_exceptions R280). -/
def State.irq (s : State) : Bool := (s.done && s.ieDone) || (s.err && s.ieErr)

/-- A protocol violation is recorded (70 R310, R311, 20_memory R77). -/
def State.setHaz (s : State) : State := { s with haz := true }

end Sys2Proof.Machine
end

