-- ==== Sys2Proof/Machine/Ops.lean ====
section
/-! DEFINITION. The named operations over memory, registers and the RNG stream, and the command life cycle:
acceptance, completion and TAKING AN ERROR (60_exceptions R262, R263, R270). -/
namespace Sys2Proof.Machine

/-! ### OMEM as data -/

/-- The bytes written since the hardware reset, by strictly rising address (log 4). -/
abbrev Memory := List Host.Cell

/-- The one canonical form: addresses strictly rise. An unlisted address holds no value of its own, so no entry can
equal what it reads as (log 4). -/
def Memory.wf (m : Memory) : Bool := decide ((m.map Prod.fst).Pairwise (· < ·))

/-- The byte last written at an address, if any. -/
def Memory.lookup : Memory → Nat → Option Byte
  | [], _ => none
  | (a, b) :: m, x => if x = a then some b else Memory.lookup m x

/-- Write one byte, keeping the canonical form. -/
def Memory.store : Memory → Nat → Byte → Memory
  | [], x, v => [(x, v)]
  | (a, b) :: m, x, v =>
    if x < a then (x, v) :: (a, b) :: m
    else if x = a then (x, v) :: m
    else (a, b) :: Memory.store m x v

/-- Write bytes at ascending addresses (00_scope R9 `MemWrite`, 20_memory R70). -/
def Memory.storeAll : Memory → Nat → List Byte → Memory
  | m, _, [] => m
  | m, a, b :: bs => Memory.storeAll (Memory.store m a b) (a + 1) bs

/-- `OMEM[a]`: the byte written there, or what the hardware reset left, which is a free value (93 U1, log 4). -/
def State.omemByte (s : State) (a : Nat) : Byte := (Memory.lookup s.omem a).getD (Config.powerOnByte s.omemEpoch a)

/-- `MemRead(addr, n)` (00_scope R9). -/
def State.readBytes (s : State) (base len : Nat) : List Byte := (List.range len).map (fun k => s.omemByte (base + k))

/-- `MemWrite(addr, n, vec)` (00_scope R9). -/
def State.writeBytes (s : State) (base : Nat) (bytes : List Byte) : State :=
  { s with omem := Memory.storeAll s.omem base bytes }

/-! ### Registers -/

/-- `G[i]` (00_scope R9). -/
def State.readG (s : State) (r : GReg) : Byte := s.g[r]

/-- `G[i] <- x` (00_scope R9). -/
def State.writeG (s : State) (r : GReg) (x : Byte) : State := { s with g := s.g.set r x }

/-- `P[i]` (00_scope R9). -/
def State.readP (s : State) (r : PReg) : Word := s.p[r]

/-- `P[i] <- x` (00_scope R9). -/
def State.writeP (s : State) (r : PReg) (x : Word) : State := { s with p := s.p.set r x }

/-! ### The RNG stream -/

/-- k times `RngByte()` (10_state R47), or `none` while the source has not offered so many bytes: the engine waits. -/
def State.draw (s : State) (k : Nat) : Option (List Byte × State) :=
  if k ≤ s.rng.length then some (s.rng.take k, { s with rng := s.rng.drop k }) else none

/-! ### The command life cycle -/

/-- Does the word match the VERIFY row of 30_encoding R94? -/
def isVerifyWord (w : Word) : Bool :=
  match decode w with
  | some (.verify _ _ _ _) => true
  | _ => false

/-- Does the word match the SIGN or the KEYGEN row of 30_encoding R94? -/
def isAttemptWord (w : Word) : Bool :=
  match decode w with
  | some (.sign _ _ _ _) => true
  | some (.keygen _ _ _) => true
  | _ => false

/-- Acceptance of the command word w (60_exceptions R262). -/
def acceptCommand (w : Word) (s : State) : State :=
  { s with
    cmd := w
    busy := true
    done := false
    phase := .idle
    valid := if isVerifyWord w then false else s.valid
    attempt := if isAttemptWord w then 0#32 else s.attempt
    progress := 0 }

/-- Completion (60_exceptions R263): the completion flags. -/
def completeCommand (s : State) : State := { s with busy := false, done := true, progress := 0 }

/-- TAKING AN ERROR, `raise E(word)` (60_exceptions R270): the latch is set, and nothing else changes. The word is the
one in flight, which `CMD` holds. -/
def raiseError (e : ErrorKind) (s : State) : State :=
  { s with busy := false, done := true, err := true, errcode := e.code, errinfo := s.cmd, progress := 0 }

/-- The error of the first requirement that fails, in the order of 60_exceptions R266. -/
def firstError : List (Bool × ErrorKind) → Option ErrorKind
  | [] => none
  | (ok, e) :: rest => if ok then firstError rest else some e

/-- A command's entry checks: the first that fails is raised, otherwise the body runs (60_exceptions R266). -/
def withChecks (checks : List (Bool × ErrorKind)) (s : State) (body : Out) : Out :=
  match firstError checks with
  | some e => .next (raiseError e s)
  | none => body

end Sys2Proof.Machine
end

