-- ==== Sys2Proof/Machine/Operands.lean ====
section
/-! DEFINITION. Operand forms: the dimension registers and `DimOK` (00_scope R11), pointers, effective addresses and
the range check (20_memory R63, 46 R240), immediates (30_encoding R93), and the operands a command reads from OMEM. -/
namespace Sys2Proof.Machine

/-- n (00_scope R11). -/
def State.nDim (s : State) : Nat := s.dimN.toNat

/-- v (00_scope R11). -/
def State.vDim (s : State) : Nat := s.dimV.toNat

/-- m (00_scope R11). -/
def State.mDim (s : State) : Nat := s.dimM.toNat

/-- `DimOK` (00_scope R11). -/
def State.dimOk (s : State) : Bool :=
  decide (1 ≤ s.nDim) && decide (1 ≤ s.vDim) && decide (1 ≤ s.mDim) && decide (s.vDim ≤ s.nDim)
    && decide (s.nDim - s.vDim = s.mDim)

/-- The rows of a linear-algebra operand (10_state R36). -/
def State.rows (s : State) : Nat := s.laRows.toNat

/-- The columns of a linear-algebra operand (10_state R36). -/
def State.cols (s : State) : Nat := s.laCols.toNat

/-- The shape MVMUL requires (41 R147). -/
def State.shapeOk (s : State) : Bool := decide (1 ≤ s.rows) && decide (1 ≤ s.cols)

/-- The square shape MINV and MSOLVE require (41 R147). -/
def State.squareOk (s : State) : Bool := decide (1 ≤ s.rows) && decide (s.cols = s.rows)

/-- PSZ (20_memory R65). -/
def State.psz (s : State) : Nat := polySize s.nDim s.vDim

/-- The bytes of a central map, m*PSZ (20_memory R65). -/
def State.mapSize (s : State) : Nat := s.mDim * s.psz

/-- The OMEM address a pointer register holds (10_state R23). -/
def State.ptr (s : State) (r : PReg) : Nat := (s.readP r).toNat

/-- Pointer plus unsigned offset, on natural numbers (46 R240). -/
def State.effAddr (s : State) (r : PReg) (imm12 : BitVec 12) : Nat := s.ptr r + imm12.toNat

/-- The region is in range (20_memory R63): base + len <= OMEM_SIZE, no wrap. -/
def State.inRange (s : State) (base len : Nat) : Bool := decide (base + len ≤ s.params.omemSize)

/-- The region of `len` bytes at the pointer register is in range (20_memory R63). -/
def State.regionOk (s : State) (r : PReg) (len : Nat) : Bool := s.inRange (s.ptr r) len

/-- The vector of `len` bytes at a pointer register (20_memory R64). -/
def State.readVec (s : State) (r : PReg) (len : Nat) : Vec := s.readBytes (s.ptr r) len

/-- `MemReadMat` at a pointer register (00_scope R9, 20_memory R64). -/
def State.readMat (s : State) (r : PReg) (rows cols : Nat) : Mat :=
  matOf rows cols (fun i j => s.omemByte (s.ptr r + i * cols + j))

/-- The polynomial record at a pointer register (20_memory R65). -/
def State.readPoly (s : State) (r : PReg) : Poly := polyOfBytes s.nDim s.vDim (s.readBytes (s.ptr r) s.psz)

/-- The central map at a pointer register (20_memory R65). -/
def State.readMap (s : State) (r : PReg) : List Poly :=
  mapOfBytes s.nDim s.vDim s.mDim (s.readBytes (s.ptr r) s.mapSize)

/-- A vector written at an address (20_memory R64). -/
def State.writeVec (s : State) (base : Nat) (x : Vec) : State := s.writeBytes base x

/-- `MemWriteMat(addr, r, c, M)` (00_scope R9, 20_memory R64). -/
def State.writeMat (s : State) (base r c : Nat) (m : Mat) : State := s.writeBytes base (bytesOfMat r c m)

end Sys2Proof.Machine
end

