-- ==== Sys2Proof/Machine/CentralMapCommands.lean ====
section
/-! DEFINITION. The central-map commands (42_central_map R164 to R166, R168). -/
namespace Sys2Proof.Machine

/-- `FGEN Pf` (R164): the k-th byte drawn becomes byte k of the region (R163); the command stays in flight while the
RNG source has not answered (10_state R47, log 10). -/
def execFgen (pf : PReg) (s : State) : Out :=
  withChecks [(s.dimOk, .dimension), (s.regionOk pf s.mapSize, .addressRange)] s
    (match s.draw s.mapSize with
     | none => .next s
     | some (buf, t) => .next (completeCommand (t.writeBytes (s.ptr pf) buf)))

/-- `PEVAL Gd, Pp, Px` (R165). -/
def execPeval (gd : GReg) (pp px : PReg) (s : State) : Out :=
  withChecks [(s.dimOk, .dimension), (s.regionOk pp s.psz && s.regionOk px s.nDim, .addressRange)] s
    (.next (completeCommand (s.writeG gd (evaluate s.nDim s.vDim (s.readPoly pp) (s.readVec px s.nDim)))))

/-- `PEVALA Pd, Pf, Px` (R166). -/
def execPevala (pd pf px : PReg) (s : State) : Out :=
  withChecks
    [(s.dimOk, .dimension),
     (s.regionOk pf s.mapSize && s.regionOk px s.nDim && s.regionOk pd s.mDim, .addressRange)] s
    (.next (completeCommand
      (s.writeVec (s.ptr pd) (evaluateAll s.nDim s.vDim (s.readMap pf) (s.readVec px s.nDim)))))

end Sys2Proof.Machine
end

