-- ==== Sys2Proof/Machine/Csr.lean ====
section
/-! DEFINITION. The CSR file: the map of 10_state R27, what each index reads as, and the writable CSRs (R26 to R43). -/
namespace Sys2Proof.Machine

/-- The CSRs of the map (10_state R27). -/
inductive Csr where
  | id | ctrl | status | errcode | errinfo | cmd | dimN | dimV | dimM | laRows | laCols | sigLen | tgtLen | attempt
  | budget | omemsz
  | gWindow (r : GReg)
  | pWindow (r : PReg)
  | reserved
  deriving DecidableEq, Repr

/-- The CSR an 8-bit index names (10_state R27). -/
def csrOfIndex (idx : BitVec 8) : Csr :=
  match idx.toNat with
  | 0x00 => .id
  | 0x01 => .ctrl
  | 0x02 => .status
  | 0x03 => .errcode
  | 0x04 => .errinfo
  | 0x05 => .cmd
  | 0x06 => .dimN
  | 0x07 => .dimV
  | 0x08 => .dimM
  | 0x09 => .laRows
  | 0x0A => .laCols
  | 0x0B => .sigLen
  | 0x0C => .tgtLen
  | 0x0D => .attempt
  | 0x0E => .budget
  | 0x0F => .omemsz
  | _ =>
    if idx.extractLsb' 4 4 = 1#4 then .gWindow (regOfField (idx.extractLsb' 0 4))
    else if idx.extractLsb' 4 4 = 2#4 then .pWindow (regOfField (idx.extractLsb' 0 4))
    else .reserved

/-- What a CSR reads as (10_state R31 to R43); unused bits and reserved indices read 0 (R26, R29). -/
def State.csrValue (s : State) : Csr → Word
  | .id => Config.idWord
  | .ctrl => s.ctrlWord
  | .status => s.statusWord
  | .errcode => s.errcode.setWidth 32
  | .errinfo => s.errinfo
  | .cmd => s.cmd
  | .dimN => s.dimN.setWidth 32
  | .dimV => s.dimV.setWidth 32
  | .dimM => s.dimM.setWidth 32
  | .laRows => s.laRows.setWidth 32
  | .laCols => s.laCols.setWidth 32
  | .sigLen => s.sigLen.setWidth 32
  | .tgtLen => s.tgtLen.setWidth 32
  | .attempt => s.attempt
  | .budget => BitVec.ofNat 32 Config.signBudget
  | .omemsz => BitVec.ofNat 32 s.params.omemSize
  | .gWindow r => (s.readG r).setWidth 32
  | .pWindow r => s.readP r
  | .reserved => 0#32

/-- A whole-word write of the seven shape CSRs and the two register windows: only the low bits of a narrow field are
kept (10_state R26, R35 to R37, R42, R43). Every other CSR is left alone: read-only and reserved ones ignore the
write (R26, R29), and `CTRL`, `STATUS`, `CMD` have writes of their own. -/
def writePlainCsr (c : Csr) (w : Word) (s : State) : State :=
  match c with
  | .dimN => { s with dimN := w.setWidth 8 }
  | .dimV => { s with dimV := w.setWidth 8 }
  | .dimM => { s with dimM := w.setWidth 8 }
  | .laRows => { s with laRows := w.setWidth 8 }
  | .laCols => { s with laCols := w.setWidth 8 }
  | .sigLen => { s with sigLen := w.setWidth 8 }
  | .tgtLen => { s with tgtLen := w.setWidth 8 }
  | .gWindow r => s.writeG r (w.setWidth 8)
  | .pWindow r => s.writeP r w
  | .id | .ctrl | .status | .errcode | .errinfo | .cmd | .attempt | .budget | .omemsz | .reserved => s

end Sys2Proof.Machine
end

