-- ==== Sys2Proof/Machine/DataMovement.lean ====
section
/-! DEFINITION. The data movement and control commands (46_data_movement_and_control). -/
namespace Sys2Proof.Machine

/-- `NOP` (R230). -/
def execNop (s : State) : Out := .next (completeCommand s)

/-- `GLI Gd, imm8` (R231). -/
def execGli (gd : GReg) (imm8 : BitVec 8) (s : State) : Out := .next (completeCommand (s.writeG gd imm8))

/-- `GMV Gd, Ga` (R232). -/
def execGmv (gd ga : GReg) (s : State) : Out := .next (completeCommand (s.writeG gd (s.readG ga)))

/-- `GLD Gd, Pa, imm12` (R233). -/
def execGld (gd : GReg) (pa : PReg) (imm12 : BitVec 12) (s : State) : Out :=
  withChecks [(s.inRange (s.effAddr pa imm12) 1, .addressRange)] s
    (.next (completeCommand (s.writeG gd (s.omemByte (s.effAddr pa imm12)))))

/-- `GST Gs, Pa, imm12` (R234). -/
def execGst (gs : GReg) (pa : PReg) (imm12 : BitVec 12) (s : State) : Out :=
  withChecks [(s.inRange (s.effAddr pa imm12) 1, .addressRange)] s
    (.next (completeCommand (s.writeBytes (s.effAddr pa imm12) [s.readG gs])))

/-- `PLI Pd, imm16` (R235). -/
def execPli (pd : PReg) (imm16 : BitVec 16) (s : State) : Out :=
  .next (completeCommand (s.writeP pd (imm16.setWidth 32)))

/-- `PLUI Pd, imm16` (R236): imm16 ‖ P[d][15:0]. -/
def execPlui (pd : PReg) (imm16 : BitVec 16) (s : State) : Out :=
  .next (completeCommand (s.writeP pd (imm16 ++ (s.readP pd).extractLsb' 0 16)))

/-- `PADDI Pd, Pa, simm12` (R237): modulo 2^32. -/
def execPaddi (pd pa : PReg) (simm12 : BitVec 12) (s : State) : Out :=
  .next (completeCommand (s.writeP pd (s.readP pa + simm12.signExtend 32)))

/-- `PMV Pd, Pa` (R238). -/
def execPmv (pd pa : PReg) (s : State) : Out := .next (completeCommand (s.writeP pd (s.readP pa)))

/-- `CSRW csr, imm16` (R239): the seven shape CSRs only, written as a host write would be. -/
def execCsrw (csr : BitVec 8) (imm16 : BitVec 16) (s : State) : Out :=
  withChecks [(isShapeCsr csr, .illegalCommand)] s
    (.next (completeCommand (writePlainCsr (csrOfIndex csr) (imm16.setWidth 32) s)))

end Sys2Proof.Machine
end

