-- ==== Sys2Proof/Machine/FieldCommands.lean ====
section
/-! DEFINITION. The field arithmetic commands (40_field_arithmetic R124 to R127). -/
namespace Sys2Proof.Machine

/-- `FADD Gd, Ga, Gb` (R124). -/
def execFadd (gd ga gb : GReg) (s : State) : Out :=
  .next (completeCommand (s.writeG gd (fadd (s.readG ga) (s.readG gb))))

/-- `FSUB Gd, Ga, Gb` (R125). -/
def execFsub (gd ga gb : GReg) (s : State) : Out :=
  .next (completeCommand (s.writeG gd (fsub (s.readG ga) (s.readG gb))))

/-- `FMUL Gd, Ga, Gb` (R126). -/
def execFmul (gd ga gb : GReg) (s : State) : Out :=
  .next (completeCommand (s.writeG gd (fmul (s.readG ga) (s.readG gb))))

/-- `FINV Gd, Ga` (R127): `FieldInverseError` exactly when G[a] is 0. -/
def execFinv (gd ga : GReg) (s : State) : Out :=
  withChecks [(s.readG ga != 0x00#8, .fieldInverse)] s
    (.next (completeCommand (s.writeG gd (finv (s.readG ga)))))

end Sys2Proof.Machine
end

