-- ==== Sys2Proof/Machine/KeyGenerator.lean ====
section
/-! DEFINITION. The key generator (43_key_generator R180 to R183). The loop of R182 is a transition function, so that the
points the host can see on the way (44_signer R197, 10_state R38) are points of the same run. -/
namespace Sys2Proof.Machine

/-- Where the pseudocode of R182 stands. -/
inductive KeyStage where
  /-- `Fbuf <- generate(n, m, v)` comes next. -/
  | drawF
  /-- The top of the loop: the budget test. -/
  | test
  /-- The n*n draws of T come next. -/
  | drawT
  /-- `Tinv <- minv(T)` comes next. -/
  | invert
  /-- The loop was left with an invertible T. -/
  | found
  /-- The budget was reached. -/
  | exhausted
  deriving DecidableEq, Repr

/-- The local values of R182 (10_state R45). `draws` counts the T matrices drawn, without a bound (log 22). -/
structure KeyRun where
  stage : KeyStage
  draws : Nat
  fbuf : List Byte
  t : Mat
  tinv : Mat
  rng : List Byte
  steps : Nat
  deriving DecidableEq, Repr

/-- `CSR.ATTEMPT` after that many draws: it saturates at 2^32 - 1 (10_state R38, R182). -/
def attemptOfDraws (draws : Nat) : Word := BitVec.ofNat 32 (min draws (2 ^ 32 - 1))

/-- One step of the pseudocode of R182; `none` when it has ended or waits for an RNG byte.

DESIGN CHOICE (log 22): the budget test compares the number of draws. R182's pseudocode compares `CSR.ATTEMPT`, which
is that number for every budget up to 2^32 - 1 but saturates there; for a larger finite budget the spec's texts differ,
and the model keeps the cap that R7, R183, R260 and R182's errors give it. -/
def keyNext (budget : Option Nat) (n mapSize : Nat) (r : KeyRun) : Option KeyRun :=
  match r.stage with
  | .drawF =>
    if mapSize ≤ r.rng.length then
      some { r with stage := .test, fbuf := r.rng.take mapSize, rng := r.rng.drop mapSize, steps := r.steps + 1 }
    else none
  | .test =>
    if budget = some r.draws then some { r with stage := .exhausted, steps := r.steps + 1 }
    else some { r with stage := .drawT, draws := r.draws + 1, steps := r.steps + 1 }
  | .drawT =>
    if n * n ≤ r.rng.length then
      some { r with
        stage := .invert, t := matOfBytes n n (r.rng.take (n * n)), rng := r.rng.drop (n * n), steps := r.steps + 1 }
    else none
  | .invert =>
    match minv n r.t with
    | some e => some { r with stage := .found, tinv := e, steps := r.steps + 1 }
    | none => some { r with stage := .test, steps := r.steps + 1 }
  | .found | .exhausted => none

/-- At most `fuel` steps of R182. -/
def keyRun (budget : Option Nat) (n mapSize : Nat) : Nat → KeyRun → KeyRun
  | 0, r => r
  | k + 1, r =>
    match keyNext budget n mapSize r with
    | none => r
    | some r' => keyRun budget n mapSize k r'

/-- R182 after its entry checks. -/
def State.keyStart (s : State) : KeyRun where
  stage := .drawF
  draws := 0
  fbuf := []
  t := []
  tinv := []
  rng := s.rng
  steps := 0

/-- R182 run for at most `fuel` steps. -/
def State.keyRunFor (s : State) (fuel : Nat) : KeyRun :=
  keyRun s.params.keygenBudget s.nDim s.mapSize fuel s.keyStart

/-- Steps enough for R182 to end or to wait: each pass of the loop takes three and draws n*n >= 1 bytes (log 10). -/
def State.keyFuel (s : State) : Nat := 3 * s.rng.length + 5

/-- The entry checks of R182. -/
def keygenChecks (pf pt pi : PReg) (s : State) : List (Bool × ErrorKind) :=
  [(s.dimOk, .dimension),
   (s.regionOk pf s.mapSize && s.regionOk pt (s.nDim * s.nDim) && s.regionOk pi (s.nDim * s.nDim), .addressRange)]

/-- `KEYGEN Pf, Pt, Pi` (R182). An RNG source that stops leaves the command in flight (U6, log 10). -/
def execKeygen (pf pt pi : PReg) (s : State) : Out :=
  let s0 := { s with attempt := 0#32 }
  withChecks (keygenChecks pf pt pi s) s0
    (let r := s.keyRunFor s.keyFuel
     let s1 := { s0 with attempt := attemptOfDraws r.draws }
     match r.stage with
     | .found =>
       let s2 := { s1 with rng := r.rng }
       .next (completeCommand
         (((s2.writeBytes (s.ptr pf) r.fbuf).writeMat (s.ptr pt) s.nDim s.nDim r.t).writeMat (s.ptr pi)
           s.nDim s.nDim r.tinv))
     | .exhausted => .next (raiseError .keygenExhausted { s1 with rng := r.rng })
     | .drawF | .test | .drawT | .invert => .next { s1 with progress := r.steps + 1 })

/-- The next point of KEYGEN the host can see (10_state R38, 44_signer R197, log 2). -/
def keygenProgress (pf pt pi : PReg) (s : State) : State :=
  match firstError (keygenChecks pf pt pi s) with
  | some _ => s
  | none =>
    let r := s.keyRunFor s.progress
    match r.stage with
    | .found | .exhausted => s
    | .drawF | .test | .drawT | .invert => { s with attempt := attemptOfDraws r.draws, progress := r.steps + 1 }

end Sys2Proof.Machine
end

