-- ==== Sys2Proof/Machine/LinearAlgebraCommands.lean ====
section
/-! DEFINITION. The linear-algebra commands (41_linear_algebra R144 to R147). -/
namespace Sys2Proof.Machine

/-- `MVMUL Pd, Pm, Pv` (R144). -/
def execMvmul (pd pm pv : PReg) (s : State) : Out :=
  withChecks
    [(s.shapeOk, .dimension),
     (s.regionOk pm (s.rows * s.cols) && s.regionOk pv s.cols && s.regionOk pd s.rows, .addressRange)] s
    (.next (completeCommand
      (s.writeVec (s.ptr pd) (matvec s.rows s.cols (s.readMat pm s.rows s.cols) (s.readVec pv s.cols)))))

/-- `MINV Pd, Pm` (R145). -/
def execMinv (pd pm : PReg) (s : State) : Out :=
  withChecks
    [(s.squareOk, .dimension),
     (s.regionOk pm (s.rows * s.rows) && s.regionOk pd (s.rows * s.rows), .addressRange)] s
    (match minv s.rows (s.readMat pm s.rows s.rows) with
     | none => .next (raiseError .singularMatrix s)
     | some e => .next (completeCommand (s.writeMat (s.ptr pd) s.rows s.rows e)))

/-- `MSOLVE Pd, Pm, Pb` (R146): by definition `matvec(minv(A), b)`. -/
def execMsolve (pd pm pb : PReg) (s : State) : Out :=
  withChecks
    [(s.squareOk, .dimension),
     (s.regionOk pm (s.rows * s.rows) && s.regionOk pb s.rows && s.regionOk pd s.rows, .addressRange)] s
    (match minv s.rows (s.readMat pm s.rows s.rows) with
     | none => .next (raiseError .singularMatrix s)
     | some e => .next (completeCommand (s.writeVec (s.ptr pd) (matvec s.rows s.rows e (s.readVec pb s.rows)))))

end Sys2Proof.Machine
end

