-- ==== Sys2Proof/Machine/Signer.lean ====
section
/-! DEFINITION. The signer (44_signer): the state machine of R191, and DRAWV, BUILDSYS, SIGN. -/
namespace Sys2Proof.Machine

/-- `DRAWV Pd` (R192). -/
def execDrawv (pd : PReg) (s : State) : Out :=
  withChecks [(s.dimOk, .dimension), (s.regionOk pd s.vDim, .addressRange)] s
    (match s.draw s.vDim with
     | none => .next s
     | some (xv, t) => .next (completeCommand (t.writeVec (s.ptr pd) xv)))

/-- `BUILDSYS Pa, Pb, Pf, Px, Pt` (R194): A is written first, then b. -/
def execBuildsys (pa pb pf px pt : PReg) (s : State) : Out :=
  withChecks
    [(s.dimOk, .dimension),
     (decide (s.tgtLen.toNat = s.mDim), .format),
     (s.regionOk pf s.mapSize && s.regionOk px s.vDim && s.regionOk pt s.mDim
        && s.regionOk pa (s.mDim * s.mDim) && s.regionOk pb s.mDim, .addressRange)] s
    (.next (completeCommand
      ((s.writeMat (s.ptr pa) s.mDim s.mDim (sysMat s.vDim s.mDim (s.readMap pf) (s.readVec px s.vDim))).writeVec (s.ptr pb)
        (sysVec s.vDim (s.readMap pf) (s.readVec px s.vDim) (s.readVec pt s.mDim)))))

/-- The local values of a SIGN (R196, 10_state R45), with its state of R191 and its attempt counter. -/
structure SignRun where
  phase : Phase
  attempt : Nat
  xv : Vec
  a : Mat
  b : Vec
  ainv : Mat
  rng : List Byte
  steps : Nat
  deriving DecidableEq, Repr

/-- One arrow of R191; `none` in a terminal state and while waiting for an RNG byte. -/
def signNext (v m : Nat) (f : List Poly) (tgt : Vec) (r : SignRun) : Option SignRun :=
  match r.phase with
  | .drawVinegar =>
    if v ≤ r.rng.length then
      some { r with phase := .buildSystem, xv := r.rng.take v, rng := r.rng.drop v, steps := r.steps + 1 }
    else none
  | .buildSystem =>
    some { r with phase := .solve, a := sysMat v m f r.xv, b := sysVec v f r.xv tgt, steps := r.steps + 1 }
  | .solve =>
    match minv m r.a with
    | some e => some { r with phase := .success, ainv := e, steps := r.steps + 1 }
    | none =>
      if r.attempt < Config.signBudget then some { r with phase := .retry, steps := r.steps + 1 }
      else some { r with phase := .failure, steps := r.steps + 1 }
  | .retry => some { r with phase := .drawVinegar, attempt := r.attempt + 1, steps := r.steps + 1 }
  | .idle | .success | .failure => none

/-- At most `fuel` arrows of R191. -/
def signRun (v m : Nat) (f : List Poly) (tgt : Vec) : Nat → SignRun → SignRun
  | 0, r => r
  | k + 1, r =>
    match signNext v m f tgt r with
    | none => r
    | some r' => signRun v m f tgt k r'

/-- R191: the first state, once the entry checks have passed. -/
def State.signStart (s : State) : SignRun where
  phase := .drawVinegar
  attempt := 1
  xv := []
  a := []
  b := []
  ainv := []
  rng := s.rng
  steps := 0

/-- R196 run for at most `fuel` arrows. -/
def State.signRunFor (s : State) (pf pt : PReg) (fuel : Nat) : SignRun :=
  signRun s.vDim s.mDim (s.readMap pf) (s.readVec pt s.mDim) fuel s.signStart

/-- Arrows enough for 1000 attempts: four for each, less the RETRY of the last. -/
def signFuel : Nat := 4 * Config.signBudget

/-- The entry checks of R196. -/
def signChecks (ps pf pi pt : PReg) (s : State) : List (Bool × ErrorKind) :=
  [(s.dimOk, .dimension),
   (decide (s.tgtLen.toNat = s.mDim), .format),
   (s.regionOk pf s.mapSize && s.regionOk pi (s.nDim * s.nDim) && s.regionOk pt s.mDim && s.regionOk ps s.nDim,
    .addressRange)]

/-- `SIGN Ps, Pf, Pi, Pt` (R196). An RNG source that stops leaves the command in flight (U6, log 10). -/
def execSign (ps pf pi pt : PReg) (s : State) : Out :=
  let s0 := { s with attempt := 0#32, phase := .idle }
  withChecks (signChecks ps pf pi pt s) s0
    (let r := s.signRunFor pf pt signFuel
     let s1 := { s0 with attempt := BitVec.ofNat 32 r.attempt, phase := r.phase }
     match r.phase with
     | .success =>
       let sigma := signature s.nDim s.mDim r.ainv r.b r.xv (s.readMat pi s.nDim s.nDim)
       .next (completeCommand { (s1.writeVec (s.ptr ps) sigma) with rng := r.rng, sigLen := s.dimN })
     | .failure => .next (raiseError .signingExhausted { s1 with rng := r.rng })
     | .idle | .drawVinegar | .buildSystem | .solve | .retry => .next { s1 with progress := r.steps + 1 })

/-- The next point of SIGN the host can see (R197, log 2); SUCCESS comes with the end of the command. -/
def signProgress (ps pf pi pt : PReg) (s : State) : State :=
  match firstError (signChecks ps pf pi pt s) with
  | some _ => s
  | none =>
    let r := s.signRunFor pf pt s.progress
    match r.phase with
    | .success => s
    | .idle | .drawVinegar | .buildSystem | .solve | .retry | .failure =>
      { s with phase := r.phase, attempt := BitVec.ofNat 32 r.attempt, progress := r.steps + 1 }

end Sys2Proof.Machine
end

