-- ==== Sys2Proof/Machine/Verifier.lean ====
section
/-! DEFINITION. The verifier (45_verifier R220, R221). -/
namespace Sys2Proof.Machine

/-- `VERIFY Pf, Pm, Pt, Ps` (R220): VALID is cleared first, so that a fault never shows a stale answer. -/
def execVerify (pf pm pt ps : PReg) (s : State) : Out :=
  let s0 := { s with valid := false }
  withChecks
    [(s.dimOk, .dimension),
     (decide (s.sigLen.toNat = s.nDim) && decide (s.tgtLen.toNat = s.mDim), .format),
     (s.regionOk pf s.mapSize && s.regionOk pm (s.nDim * s.nDim) && s.regionOk pt s.mDim && s.regionOk ps s.nDim,
      .addressRange)] s0
    (.next (completeCommand { s0 with
      valid := verifySig s.nDim s.vDim (s.readMap pf) (s.readMat pm s.nDim s.nDim) (s.readVec pt s.mDim)
        (s.readVec ps s.nDim) }))

end Sys2Proof.Machine
end

