-- ==== Sys2Proof/Machine/Dispatch.lean ====
section
/-! DEFINITION. The meaning of every command (30_encoding R94), one arm each. -/
namespace Sys2Proof.Machine

/-- The engine executes a command that is in flight. -/
def exec (i : Instr) (s : State) : Host.Outcome State Fault Refusal :=
  match i with
  | .nop => Sys2Proof.Machine.execNop s
  | .gli gd imm8 => Sys2Proof.Machine.execGli gd imm8 s
  | .gmv gd ga => Sys2Proof.Machine.execGmv gd ga s
  | .gld gd pa imm12 => Sys2Proof.Machine.execGld gd pa imm12 s
  | .gst gs pa imm12 => Sys2Proof.Machine.execGst gs pa imm12 s
  | .pli pd imm16 => Sys2Proof.Machine.execPli pd imm16 s
  | .plui pd imm16 => Sys2Proof.Machine.execPlui pd imm16 s
  | .paddi pd pa simm12 => Sys2Proof.Machine.execPaddi pd pa simm12 s
  | .pmv pd pa => Sys2Proof.Machine.execPmv pd pa s
  | .csrw csr imm16 => Sys2Proof.Machine.execCsrw csr imm16 s
  | .fadd gd ga gb => Sys2Proof.Machine.execFadd gd ga gb s
  | .fsub gd ga gb => Sys2Proof.Machine.execFsub gd ga gb s
  | .fmul gd ga gb => Sys2Proof.Machine.execFmul gd ga gb s
  | .finv gd ga => Sys2Proof.Machine.execFinv gd ga s
  | .mvmul pd pm pv => Sys2Proof.Machine.execMvmul pd pm pv s
  | .minv pd pm => Sys2Proof.Machine.execMinv pd pm s
  | .msolve pd pm pb => Sys2Proof.Machine.execMsolve pd pm pb s
  | .fgen pf => Sys2Proof.Machine.execFgen pf s
  | .peval gd pp px => Sys2Proof.Machine.execPeval gd pp px s
  | .pevala pd pf px => Sys2Proof.Machine.execPevala pd pf px s
  | .keygen pf pt pi => Sys2Proof.Machine.execKeygen pf pt pi s
  | .drawv pd => Sys2Proof.Machine.execDrawv pd s
  | .buildsys pa pb pf px pt => Sys2Proof.Machine.execBuildsys pa pb pf px pt s
  | .sign ps pf pi pt => Sys2Proof.Machine.execSign ps pf pi pt s
  | .verify pf pm pt ps => Sys2Proof.Machine.execVerify pf pm pt ps s

end Sys2Proof.Machine
end

