-- ==== Sys2Proof/Machine/Engine.lean ====
section
/-! DEFINITION. The engine's turn, the two resets and what an abandoned command leaves behind (60_exceptions R264,
70_reset_and_hazards R300, R302). -/
namespace Sys2Proof.Machine

/-- The engine's turn: while BUSY it decodes the word in flight and executes it to its end or its wait; an illegal word
faults at once (30_encoding R96). While idle it does nothing (60 R289). -/
def engineTurn (s : State) : Out :=
  if s.busy then
    match decode s.cmd with
    | some i => exec i s
    | none => .next (raiseError .illegalCommand s)
  else .next s

/-- The engine passes one visible point of the command in flight (44_signer R197, log 2). Only SIGN and KEYGEN have
such points. -/
def engineProgress (s : State) : State :=
  if s.busy then
    match decode s.cmd with
    | some (.sign ps pf pi pt) => signProgress ps pf pi pt s
    | some (.keygen pf pt pi) => keygenProgress pf pt pi s
    | _ => s
  else s

/-! ### Abandoning a command (70 R302, 93 U3, U4) -/

/-- The destination regions of a command, as (base, length), from the pointers and dimensions it was accepted with
(70 R302), whether or not its entry checks would pass. DESIGN CHOICE (log 6): R65 gives the F region a length only with
`DimOK`; without it the length is m*PSZ with n - v oil variables, not m, and with none where n < v. -/
def destRegions (i : Instr) (s : State) : List (Nat × Nat) :=
  match i with
  | .gst _ pa imm12 => [(s.effAddr pa imm12, 1)]
  | .mvmul pd _ _ => [(s.ptr pd, s.rows)]
  | .minv pd _ => [(s.ptr pd, s.rows * s.rows)]
  | .msolve pd _ _ => [(s.ptr pd, s.rows)]
  | .fgen pf => [(s.ptr pf, s.mapSize)]
  | .pevala pd _ _ => [(s.ptr pd, s.mDim)]
  | .keygen pf pt pi => [(s.ptr pf, s.mapSize), (s.ptr pt, s.nDim * s.nDim), (s.ptr pi, s.nDim * s.nDim)]
  | .drawv pd => [(s.ptr pd, s.vDim)]
  | .buildsys pa pb _ _ _ => [(s.ptr pa, s.mDim * s.mDim), (s.ptr pb, s.mDim)]
  | .sign ps _ _ _ => [(s.ptr ps, s.nDim)]
  | .nop | .gli _ _ | .gmv _ _ | .gld _ _ _ | .pli _ _ | .plui _ _ | .paddi _ _ _ | .pmv _ _ | .csrw _ _
  | .fadd _ _ _ | .fsub _ _ _ | .fmul _ _ _ | .finv _ _ | .peval _ _ _ | .verify _ _ _ _ => []

/-- The destination regions of the command in flight; an illegal word has none. -/
def State.flightRegions (s : State) : List (Nat × Nat) :=
  match decode s.cmd with
  | some i => destRegions i s
  | none => []

/-- Unspecified bytes in the part of a region that exists (93 U3). -/
def State.clobber (s : State) (region : Nat × Nat) : State :=
  let len := min region.2 (s.params.omemSize - region.1)
  { s.writeBytes region.1 ((List.range len).map (fun k => Config.freeByte (s.freeCount + k))) with
    freeCount := s.freeCount + len }

/-- Unspecified bytes in several regions (93 U3). -/
def State.clobberAll : State → List (Nat × Nat) → State
  | s, [] => s
  | s, region :: rest => State.clobberAll (s.clobber region) rest

/-- The most RNG bytes the command in flight can have drawn: what it would consume to its end, or, if it would wait
for more, all that have been offered (93 U4). -/
def State.drawBound (s : State) : Nat :=
  match engineTurn s with
  | .next t => if t.busy then s.rng.length else s.rng.length - t.rng.length
  | _ => 0

/-- The RNG bytes the abandoned command drew stay consumed, a free number of them within the bound (93 U4). -/
def State.dropDrawn (s : State) : State :=
  { s with rng := s.rng.drop (min (Config.abandonedDraws s.freeCount) s.drawBound), freeCount := s.freeCount + 1 }

/-- Every register and CSR at its reset value (10_state R49); OMEM, the RNG stream and the model's own fields stay. -/
def State.resetRegisters (s : State) : State :=
  { State.resetWith s.params with
    omem := s.omem
    rng := s.rng
    omemEpoch := s.omemEpoch
    freeCount := s.freeCount
    answers := s.answers
    agenda := s.agenda }

/-- The soft reset `CTRL.SRST` (70 R302). -/
def softReset (s : State) : State :=
  if s.busy then (s.dropDrawn.clobberAll s.flightRegions).resetRegisters else s.resetRegisters

/-- The hardware reset (70 R300): OMEM is unspecified afterwards (93 U1), a command in flight leaves no trace in
STATUS, the bytes it drew stay consumed (93 U4). -/
def hardwareReset (s : State) : State :=
  let s1 := if s.busy then s.dropDrawn else s
  { s1.resetRegisters with omem := [], omemEpoch := s.omemEpoch + 1 }

end Sys2Proof.Machine
end

