-- ==== Sys2Proof/Machine/HostPort.lean ====
section
/-! DEFINITION. The HOST transactions (10_state R21, R26 to R29, 20_memory R77, 70_reset_and_hazards R310, R311), the
platform bus that may carry them (20_memory R62, R66, R67), and what each event does. -/
namespace Sys2Proof.Machine

/-- `HostCsrRead(idx)`: the current value at any time, with no side effect (10_state R26, R28). -/
def hostCsrRead (idx : BitVec 8) (s : State) : State :=
  { s with answers := .csr (s.csrValue (csrOfIndex idx)) :: s.answers }

/-- A host write of `CTRL` (10_state R32): SRST performs the soft reset and nothing else. -/
def writeCtrl (w : Word) (s : State) : State := if w.getLsbD 31 then softReset s else writeEnables w s

/-- A host write of `CMD` while not BUSY (10_state R41, 70 R311): dropped while ERR, otherwise accepted. -/
def writeCmd (w : Word) (s : State) : State := if s.err then s.setHaz else acceptCommand w s

/-- `HostCsrWrite(idx, w)`: `CTRL` and `STATUS` at any time, everything else only while not BUSY (10_state R28,
70 R310). -/
def hostCsrWrite (idx : BitVec 8) (w : Word) (s : State) : State :=
  match csrOfIndex idx with
  | .ctrl => writeCtrl w s
  | .status => writeStatus w s
  | c => if s.busy then s.setHaz else if c = .cmd then writeCmd w s else writePlainCsr c w s

/-- `HostMemRead(addr)` (20_memory R77): an unspecified byte while BUSY (93 U2), 0 beyond OMEM; both set HAZ. -/
def hostMemRead (addr : Nat) (s : State) : State :=
  if s.busy then
    { s.setHaz with answers := .mem (Config.freeByte s.freeCount) :: s.answers, freeCount := s.freeCount + 1 }
  else if addr < s.params.omemSize then { s with answers := .mem (s.omemByte addr) :: s.answers }
  else { s.setHaz with answers := .mem 0x00#8 :: s.answers }

/-- `HostMemWrite(addr, b)` (20_memory R77): ignored, with HAZ set, while BUSY and beyond OMEM. -/
def hostMemWrite (addr : Nat) (b : Byte) (s : State) : State :=
  if s.busy then s.setHaz
  else if addr < s.params.omemSize then s.writeBytes addr [b]
  else s.setHaz

/-- One HOST transaction (10_state R21). -/
def hostTransaction (t : HostTx) (s : State) : State :=
  match t with
  | .csrRead idx => hostCsrRead idx s
  | .csrWrite idx w => hostCsrWrite idx w s
  | .memRead addr => hostMemRead addr s
  | .memWrite addr b => hostMemWrite addr b s

/-! ### The platform bus -/

/-- The bytes of an access. -/
def BusWidth.bytes : BusWidth → Nat
  | .byte => 1
  | .half => 2
  | .word => 4

/-- The byte of a bus word at `base + k`, little-endian (20_memory R62). -/
def busByte (w : Word) (k : Nat) : Byte := w.extractLsb' (8 * k) 8

/-- The bus word whose bits [8k+7:8k] are the k-th of the bytes (20_memory R62); bits beyond them are 0. -/
def busWord : List Byte → Word
  | [] => 0#32
  | b :: bs => (busWord bs <<< 8) ||| b.setWidth 32

/-- The byte of an answer. The bytes of a bus read are `mem` answers; the other two cases arise on no agenda that
`busAccess` makes (log 12). -/
def HostAnswer.byte : HostAnswer → Byte
  | .mem b => b
  | .csr w => w.setWidth 8
  | .bus w => w.setWidth 8

/-- The bus answers a read of OMEM: the bytes just read, the one at the lowest address in the lowest bits (20_memory
R62, log 12). -/
def busAnswer (width : BusWidth) (s : State) : State :=
  { s with answers := .bus (busWord ((s.answers.take width.bytes).reverse.map HostAnswer.byte)) :: s.answers }

/-- The access has a byte in the window of the CSR file, 256 words at HOST_BASE (20_memory R66). -/
def BusAccess.touchesCsrs (p : Params) (a : BusAccess) : Bool :=
  decide (a.addr < p.hostBase + 4 * 256) && decide (p.hostBase < a.addr + a.width.bytes)

/-- The HOST transactions a bus access stands for (20_memory R62, R66, R67): one CSR word, or one OMEM byte for each
byte of the access. DESIGN CHOICE (log 12): an access with any byte in the CSR window is a CSR access, also where the
OMEM window overlaps it; and a CSR word is aligned when it is at HOST_BASE + 4*i, also where HOST_BASE is no multiple of
4. -/
def busTransactions (p : Params) (a : BusAccess) : Host.Outcome (List HostTx) Fault Refusal :=
  if a.touchesCsrs p then
    if a.width = .word ∧ p.hostBase ≤ a.addr ∧ (a.addr - p.hostBase) % 4 = 0 then
      let idx := BitVec.ofNat 8 ((a.addr - p.hostBase) / 4)
      match a.data with
      | none => .next [.csrRead idx]
      | some w => .next [.csrWrite idx w]
    else .refused .busCsrNotWord
  else if p.omemWindowBase ≤ a.addr ∧ a.addr + a.width.bytes ≤ p.omemWindowBase + p.omemSize then
    .next ((List.range a.width.bytes).map (fun k =>
      match a.data with
      | none => .memRead (a.addr - p.omemWindowBase + k)
      | some w => .memWrite (a.addr - p.omemWindowBase + k) (busByte w k)))
  else .fault .busUnmapped

/-- What follows the transactions of a bus access: after a read of OMEM the bus answers with the word. A CSR read is
answered by the word of its one transaction (20_memory R62). -/
def busReply (width : BusWidth) : List HostTx → List Event
  | .memRead _ :: _ => [.busAnswer width]
  | _ => []

/-- A bus access is its HOST transactions and its answer, which happen next, in order (log 12). -/
def busAccess (a : BusAccess) (s : State) : Out :=
  match busTransactions s.params a with
  | .next ts => .next { s with agenda := ts.map Event.host ++ (busReply a.width ts ++ s.agenda) }
  | .fault f => .fault f
  | .refused r => .refused r

/-! ### Events -/

/-- What an event does (00_scope R14). -/
def handleEvent (e : Event) (s : State) : Out :=
  match e with
  | .host t => .next (hostTransaction t s)
  | .bus a => busAccess a s
  | .busAnswer width => .next (busAnswer width s)
  | .rngByte b => .next { s with rng := s.rng ++ [b] }
  | .engine => engineTurn s
  | .progress => .next (engineProgress s)
  | .statusWriteAtEnd w => engineTurn (writeStatus w s)
  | .hardwareReset => .next (hardwareReset s)

/-- The next event of the agenda happens; with none left the engine has the turn (log 1). -/
def nextEvent (s : State) : Out :=
  match s.agenda with
  | [] => engineTurn s
  | e :: rest => handleEvent e { s with agenda := rest }

/-- The host has issued w and the engine has the next turn (60 R262, log 13). -/
def issueWord (w : Word) (s : State) : State :=
  { acceptCommand w s with agenda := .engine :: s.agenda }

end Sys2Proof.Machine
end

