-- ==== Sys2Proof/Machine/Step.lean ====
section
/-! DEFINITION. One step of the machine, and how a command is placed where the next step executes it. -/
namespace Sys2Proof.Machine

/-- One step: the next event of the agenda, or the engine's turn (00_scope R14, log 1). -/
def step (s : State) : Host.Outcome State Fault Refusal := nextEvent s

/-- The command word with the given bits accepted, so that the very next step executes it (log 13). -/
def State.withFetchWord (s : State) (nbits w : Nat) : State := issueWord (BitVec.ofNat 32 (w % 2 ^ nbits)) s

end Sys2Proof.Machine
end

