-- ==== Sys2Proof/Machine/Assembly.lean ====
section
/-! DEFINITION. The notation of 30_encoding: the assembler text of a command (R99), the expansion of the
pseudo-instructions (R100), and host scripts as agendas (R102). -/
namespace Sys2Proof.Machine

/-- `G0` .. `G15` (R99). -/
def gName (r : GReg) : String := "G" ++ toString r.val

/-- `P0` .. `P15` (R99). -/
def pName (r : PReg) : String := "P" ++ toString r.val

/-- A line of assembler: the mnemonic, then the operands separated by commas (R99). -/
def asmLine (mnemonic : String) (operands : List String) : String :=
  match operands with
  | [] => mnemonic
  | _ => mnemonic ++ " " ++ ", ".intercalate operands

/-- The assembler text of a command, operands in the order f5, f4, f3, f2, f1, immediates last (R99). -/
def asmText : Instr → String
  | .nop => asmLine "NOP" []
  | .gli d imm => asmLine "GLI" [gName d, toString imm.toNat]
  | .gmv d a => asmLine "GMV" [gName d, gName a]
  | .gld d a imm => asmLine "GLD" [gName d, pName a, toString imm.toNat]
  | .gst s a imm => asmLine "GST" [gName s, pName a, toString imm.toNat]
  | .pli d imm => asmLine "PLI" [pName d, toString imm.toNat]
  | .plui d imm => asmLine "PLUI" [pName d, toString imm.toNat]
  | .paddi d a imm => asmLine "PADDI" [pName d, pName a, toString imm.toInt]
  | .pmv d a => asmLine "PMV" [pName d, pName a]
  | .csrw csr imm => asmLine "CSRW" [toString csr.toNat, toString imm.toNat]
  | .fadd d a b => asmLine "FADD" [gName d, gName a, gName b]
  | .fsub d a b => asmLine "FSUB" [gName d, gName a, gName b]
  | .fmul d a b => asmLine "FMUL" [gName d, gName a, gName b]
  | .finv d a => asmLine "FINV" [gName d, gName a]
  | .mvmul d m v => asmLine "MVMUL" [pName d, pName m, pName v]
  | .minv d m => asmLine "MINV" [pName d, pName m]
  | .msolve d m b => asmLine "MSOLVE" [pName d, pName m, pName b]
  | .fgen f => asmLine "FGEN" [pName f]
  | .peval d p x => asmLine "PEVAL" [gName d, pName p, pName x]
  | .pevala d f x => asmLine "PEVALA" [pName d, pName f, pName x]
  | .keygen f t i => asmLine "KEYGEN" [pName f, pName t, pName i]
  | .drawv d => asmLine "DRAWV" [pName d]
  | .buildsys a b f x t => asmLine "BUILDSYS" [pName a, pName b, pName f, pName x, pName t]
  | .sign s f i t => asmLine "SIGN" [pName s, pName f, pName i, pName t]
  | .verify f m t s => asmLine "VERIFY" [pName f, pName m, pName t, pName s]

/-- The expansion of a pseudo-instruction (R100). -/
def expandPseudo : Pseudo → List Instr
  | .pla pd imm32 =>
    .pli pd (imm32.extractLsb' 0 16) ::
      (if imm32.extractLsb' 16 16 = 0#16 then [] else [.plui pd (imm32.extractLsb' 16 16)])
  | .gclr gd => [.gli gd 0x00#8]
  | .fneg gd ga => [.gmv gd ga]
  | .fsqr gd ga => [.fmul gd ga ga]
  | .setdim n v m => [.csrw 0x06#8 n, .csrw 0x07#8 v, .csrw 0x08#8 m]
  | .setla r c => [.csrw 0x09#8 r, .csrw 0x0A#8 c]

/-- A line of a host script (R102). -/
inductive Directive where
  /-- A command: wait until BUSY = 0, then write the word to `CMD`. -/
  | command (i : Instr)
  /-- `.csr NAME, value`. -/
  | csr (idx : BitVec 8) (w : Word)
  /-- `.mem addr: b0 b1 ...`. -/
  | mem (addr : Nat) (bytes : List Byte)
  /-- `.rng b0 b1 ...`. -/
  | rng (bytes : List Byte)
  /-- `.expect ...`: the state that is checked is the one after all earlier actions have ended; the check itself is a
  proposition about that state, not an event. -/
  | expect
  deriving DecidableEq, Repr

/-- The events of consecutive `HostMemWrite`s. -/
def memWrites : Nat → List Byte → List Event
  | _, [] => []
  | a, b :: bs => .host (.memWrite a b) :: memWrites (a + 1) bs

/-- The wait for the end of the command before: the engine has its turn (R102, log 23). -/
def scriptWait : List Event := [.engine]

/-- The actions of a line (R102). A command and `.expect` wait for the end of the command before, as R102 says; that
`.csr` and `.mem` wait as well is DESIGN CHOICE (log 23). -/
def directiveEvents : Directive → List Event
  | .command i => scriptWait ++ [.host (.csrWrite 0x05#8 (encode i))]
  | .csr idx w => scriptWait ++ [.host (.csrWrite idx w)]
  | .mem addr bytes => scriptWait ++ memWrites addr bytes
  | .rng _ => []
  | .expect => scriptWait

/-- The bytes that a line says the RNG source will answer with (R102). -/
def directiveRng : Directive → List Byte
  | .rng bytes => bytes
  | .command _ | .csr _ _ | .mem _ _ | .expect => []

/-- The agenda of a host script (R102): the RNG source has its bytes ready (log 23), the actions happen in order, and
the last command runs to its end. -/
def scriptAgenda (ds : List Directive) : List Event :=
  (ds.flatMap directiveRng).map Event.rngByte ++ (ds.flatMap directiveEvents ++ scriptWait)

end Sys2Proof.Machine
end

