-- ==== Sys2Proof/Safety.lean ====
section
/-! DEFINITION. What counts as a good run (00_scope R15), the invariant of the machine, and the words the statements use
for what a transition leaves unchanged. -/
namespace Sys2Proof.Machine

/-- An event in which the host acts. -/
def Event.isHosts : Event → Bool
  | .host _ | .bus _ | .busAnswer _ | .statusWriteAtEnd _ => true
  | .rngByte _ | .engine | .progress | .hardwareReset => false

/-- 00_scope R15: the end of a run. -/
def State.runEnded (s : State) : Bool := !s.busy && !(s.agenda.any Event.isHosts)

/-- 00_scope R15: a good run. -/
def State.goodEnd (s : State) : Bool := s.runEnded && !s.err && !s.haz

/-- What holds of the machine at every moment: OMEM in its canonical form and inside OMEM_SIZE (20_memory R60), no
command in flight while an error is latched (60 R276), ERRCODE and ERRINFO zero exactly with ERR (10_state R34), a
latched error naming its own command (60 R270, R276), codes 9 .. 15 never produced (R260), DONE and BUSY apart (R262,
R263), no progress of a command that is not in flight (10_state R46). -/
structure State.Inv (s : State) : Prop where
  omem_canonical : Memory.wf s.omem = true
  omem_inside : ∀ a b, (a, b) ∈ s.omem → a < s.params.omemSize
  busy_not_err : s.busy = true → s.err = false
  busy_not_done : s.busy = true → s.done = false
  no_error_no_code : s.err = false → s.errcode = 0#4 ∧ s.errinfo = 0#32
  error_names_command : s.err = true → s.errinfo = s.cmd ∧ 1 ≤ s.errcode.toNat ∧ s.errcode.toNat ≤ 8
  idle_no_progress : s.busy = false → s.progress = 0

/-! ### What a transition leaves unchanged -/

/-- No G register changes. -/
def SameG (s t : State) : Prop := ∀ r, t.readG r = s.readG r

/-- No P register changes. -/
def SameP (s t : State) : Prop := ∀ r, t.readP r = s.readP r

/-- No byte of OMEM changes, whatever its address. -/
def SameOmem (s t : State) : Prop := ∀ a, t.omemByte a = s.omemByte a

/-- No byte of OMEM outside the region changes. -/
def SameOmemOutside (base len : Nat) (s t : State) : Prop :=
  ∀ a, ¬ (base ≤ a ∧ a < base + len) → t.omemByte a = s.omemByte a

/-- G[d] becomes x and no other G register changes. -/
def WritesG (d : GReg) (x : Byte) (s t : State) : Prop := t.readG d = x ∧ ∀ r, r ≠ d → t.readG r = s.readG r

/-- P[d] becomes x and no other P register changes. -/
def WritesP (d : PReg) (x : Word) (s t : State) : Prop := t.readP d = x ∧ ∀ r, r ≠ d → t.readP r = s.readP r

/-- The dimension and shape registers but the two lengths are unchanged. -/
def SameDims (s t : State) : Prop :=
  t.dimN = s.dimN ∧ t.dimV = s.dimV ∧ t.dimM = s.dimM ∧ t.laRows = s.laRows ∧ t.laCols = s.laCols

/-- All seven dimension and length registers are unchanged. -/
def SameShape (s t : State) : Prop := SameDims s t ∧ t.sigLen = s.sigLen ∧ t.tgtLen = s.tgtLen

/-- `VALID`, `PHASE` and `ATTEMPT` are unchanged. -/
def SameResults (s t : State) : Prop := t.valid = s.valid ∧ t.phase = s.phase ∧ t.attempt = s.attempt

/-- What no command ever touches: the parameters, `CTRL`, `HAZ`, `CMD`, the model's own counters and the host's side. -/
def SameOuter (s t : State) : Prop :=
  t.params = s.params ∧ t.ieDone = s.ieDone ∧ t.ieErr = s.ieErr ∧ t.haz = s.haz ∧ t.cmd = s.cmd
    ∧ t.omemEpoch = s.omemEpoch ∧ t.freeCount = s.freeCount ∧ t.answers = s.answers ∧ t.agenda = s.agenda

/-- The completion flags and nothing else of the life cycle (60 R263): BUSY 0, DONE 1; ERR, ERRCODE, ERRINFO and the
rest of what no command touches are unchanged. -/
def Completes (s t : State) : Prop :=
  t.busy = false ∧ t.done = true ∧ t.progress = 0
    ∧ t.err = s.err ∧ t.errcode = s.errcode ∧ t.errinfo = s.errinfo ∧ SameOuter s t

/-- The error latch (60 R270) and nothing else: BUSY 0, DONE 1, ERR 1, ERRCODE the code, ERRINFO the command word; no G
register, no P register, no OMEM byte, no dimension or length register changes. -/
def Latches (e : ErrorKind) (s t : State) : Prop :=
  t.busy = false ∧ t.done = true ∧ t.progress = 0
    ∧ t.err = true ∧ t.errcode = e.code ∧ t.errinfo = s.cmd ∧ SameOuter s t
    ∧ SameG s t ∧ SameP s t ∧ SameOmem s t ∧ SameShape s t

end Sys2Proof.Machine
end

