-- ==== Sys2Proof/WellFormed.lean ====
section
/-! DEFINITION. Which commands an assembler accepts (30_encoding R99). Register numbers and immediates fit their
fields by their types, so the one check left is CSRW's. Decoding does not use this check (R101): the hardware runs
every CSRW word, dropping the high bits or faulting as R239 says (log 16). -/
namespace Sys2Proof

/-- 30_encoding R99: "The assembler must refuse ... a CSRW whose immediate does not fit the target field (for the
8-bit dimension and length CSRs: a value above 255)". -/
def Instr.wellFormed : Instr → Bool
  | .csrw csr imm => !isShapeCsr csr || decide (imm.toNat ≤ 255)
  | .nop | .gli _ _ | .gmv _ _ | .gld _ _ _ | .gst _ _ _ | .pli _ _ | .plui _ _ | .paddi _ _ _ | .pmv _ _
  | .fadd _ _ _ | .fsub _ _ _ | .fmul _ _ _ | .finv _ _ | .mvmul _ _ _ | .minv _ _ | .msolve _ _ _ | .fgen _
  | .peval _ _ _ | .pevala _ _ _ | .keygen _ _ _ | .drawv _ | .buildsys _ _ _ _ _ | .sign _ _ _ _
  | .verify _ _ _ _ => true

end Sys2Proof
end

