-- ==== Sys2Proof/Certificates/Slice0/Obligations.lean ====
section
/-! DEFINITION. The statements for the provers. A rule R<n> is of spec/; a log number is a row of notes/assumptions. -/
namespace Sys2Proof.Machine

/-! ### The words the statements use -/

/-- The command has the given word, and the word decodes to the command. -/
def EncodesAs (i : Instr) (w : Word) : Prop := encode i = w ∧ decode w = some i

/-- `DimOK` (R11), on the dimension registers themselves. -/
def DimOK (s : State) : Prop :=
  1 ≤ s.dimN.toNat ∧ 1 ≤ s.dimV.toNat ∧ 1 ≤ s.dimM.toNat ∧ s.dimV.toNat ≤ s.dimN.toNat
    ∧ s.dimN.toNat - s.dimV.toNat = s.dimM.toNat

/-- PSZ (R11, R65), on the dimension registers themselves. -/
def pszOf (s : State) : Nat :=
  s.dimV.toNat * s.dimV.toNat + s.dimV.toNat * (s.dimN.toNat - s.dimV.toNat) + s.dimN.toNat + 1

/-- The OMEM address in a pointer register. -/
def baseOf (s : State) (r : PReg) : Nat := (s.readP r).toNat

/-- The region of len bytes at a pointer register is in range (R63). -/
def Fits (s : State) (r : PReg) (len : Nat) : Prop := baseOf s r + len ≤ s.params.omemSize

/-- A completion that writes registers or OMEM only. -/
def CompletesPlain (s t : State) : Prop := Completes s t ∧ SameShape s t ∧ SameResults s t ∧ t.rng = s.rng

/-- The command latches the error and changes nothing else, the RNG stream included. -/
def Faults (i : Instr) (e : ErrorKind) (s : State) : Prop :=
  ∃ t, exec i s = .next t ∧ Latches e s t ∧ SameResults s t ∧ t.rng = s.rng

/-- The command stays in flight: no register, no OMEM byte and no flag of its end changes (R47). -/
def StaysInFlight (s t : State) : Prop :=
  t.busy = s.busy ∧ t.done = s.done ∧ t.err = s.err ∧ t.errcode = s.errcode ∧ t.errinfo = s.errinfo
    ∧ SameOuter s t ∧ SameG s t ∧ SameP s t ∧ SameOmem s t ∧ SameShape s t ∧ t.valid = s.valid

/-- `evaluate` (R161) of the polynomial record at an OMEM address (R65), at the vector x. -/
def evalOn (s : State) (base : Nat) (x : Nat → Byte) : Byte :=
  let n := s.dimN.toNat
  let v := s.dimV.toNat
  let o := n - v
  s.omemByte (base + v * v + v * o + n)
    ^^^ xorUpTo v (fun i => xorUpTo v (fun j => fmul (fmul (s.omemByte (base + i * v + j)) (x i)) (x j)))
    ^^^ xorUpTo v (fun i => xorUpTo o (fun j =>
      fmul (fmul (s.omemByte (base + v * v + i * o + j)) (x i)) (x (v + j))))
    ^^^ xorUpTo n (fun k => fmul (s.omemByte (base + v * v + v * o + k)) (x k))

/-- `vinpart` (R193) of the polynomial record at an OMEM address. -/
def vinOn (s : State) (base : Nat) (xv : Nat → Byte) : Byte :=
  let n := s.dimN.toNat
  let v := s.dimV.toNat
  let o := n - v
  s.omemByte (base + v * v + v * o + n)
    ^^^ xorUpTo v (fun j => xorUpTo v (fun k => fmul (fmul (s.omemByte (base + j * v + k)) (xv j)) (xv k)))
    ^^^ xorUpTo v (fun j => fmul (s.omemByte (base + v * v + v * o + j)) (xv j))

/-- `coef` (R193) of the polynomial record at an OMEM address. -/
def coefOn (s : State) (base : Nat) (xv : Nat → Byte) (j : Nat) : Byte :=
  let n := s.dimN.toNat
  let v := s.dimV.toNat
  let o := n - v
  xorUpTo v (fun k => fmul (s.omemByte (base + v * v + k * o + j)) (xv k))
    ^^^ s.omemByte (base + v * v + v * o + (v + j))

/-- The k by k matrix in OMEM at an address, row-major (R64). -/
def matOn (s : State) (base k : Nat) : Mat := matOf k k (fun i j => s.omemByte (base + i * k + j))

/-- The vinegar vector of attempt number a (from 0) of a SIGN: the a-th group of v RNG bytes (R196). -/
def vinegarOf (s : State) (a k : Nat) : Byte := s.rng.getD (a * s.dimV.toNat + k) 0#8

/-- The matrix A of attempt number a of a SIGN (R193, R196). -/
def attemptMat (s : State) (pf : PReg) (a : Nat) : Mat :=
  matOf s.dimM.toNat s.dimM.toNat (fun i j => coefOn s (baseOf s pf + i * pszOf s) (vinegarOf s a) j)

/-- Element i of the vector b of attempt number a of a SIGN (R193, R196). -/
def attemptVec (s : State) (pf pt : PReg) (a i : Nat) : Byte :=
  s.omemByte (baseOf s pt + i) ^^^ vinOn s (baseOf s pf + i * pszOf s) (vinegarOf s a)

/-- The matrix T number a (from 0) that a KEYGEN draws, after the bytes of F (R182). -/
def candidateT (s : State) (a : Nat) : Mat :=
  let n := s.dimN.toNat
  matOf n n (fun i j => s.rng.getD (s.dimM.toNat * pszOf s + a * (n * n) + (i * n + j)) 0#8)

/-- The regions of SIGN are in range (R196). -/
def SignFits (s : State) (ps pf pi pt : PReg) : Prop :=
  Fits s pf (s.dimM.toNat * pszOf s) ∧ Fits s pi (s.dimN.toNat * s.dimN.toNat) ∧ Fits s pt s.dimM.toNat
    ∧ Fits s ps s.dimN.toNat

/-- The regions of KEYGEN are in range (R182). -/
def KeygenFits (s : State) (pf pt pi : PReg) : Prop :=
  Fits s pf (s.dimM.toNat * pszOf s) ∧ Fits s pt (s.dimN.toNat * s.dimN.toNat)
    ∧ Fits s pi (s.dimN.toNat * s.dimN.toNat)

/-- Every register and CSR at the value of the table of R49. -/
def RegistersReset (t : State) : Prop :=
  (∀ r, t.readG r = 0x00#8) ∧ (∀ r, t.readP r = 0x00000000#32) ∧ t.ctrlWord = 0#32 ∧ t.statusWord = 0#32
    ∧ t.phase = .idle ∧ t.errcode = 0#4 ∧ t.errinfo = 0#32 ∧ t.cmd = 0#32 ∧ t.dimN = 0#8 ∧ t.dimV = 0#8
    ∧ t.dimM = 0#8 ∧ t.laRows = 0#8 ∧ t.laCols = 0#8 ∧ t.sigLen = 0#8 ∧ t.tgtLen = 0#8 ∧ t.attempt = 0#32
    ∧ t.irq = false ∧ t.csrValue .id = 0x554F5601#32 ∧ t.csrValue .budget = 1000#32
    ∧ t.csrValue .omemsz = BitVec.ofNat 32 t.params.omemSize

/-- Two regions have no address in common. -/
def Apart (base1 len1 base2 len2 : Nat) : Prop := base1 + len1 ≤ base2 ∨ base2 + len2 ≤ base1

/-- Commands executed one after another; `none` if one gives no next state. -/
def execAll : List Instr → State → Option State
  | [], s => some s
  | i :: rest, s =>
    match exec i s with
    | .next t => execAll rest t
    | _ => none

/-- That many steps, one after another; `none` if one gives no next state. -/
def stepAll : Nat → State → Option State
  | 0, s => some s
  | k + 1, s =>
    match step s with
    | .next t => stepAll k t
    | _ => none

/-- No byte of n bytes at a bus address is in the window of the CSR file (R66). -/
def MissesCsrs (p : Params) (addr n : Nat) : Prop := addr + n ≤ p.hostBase ∨ p.hostBase + 1024 ≤ addr

/-- The destination regions, as (base, length), that the rule of each command lists, over its pointers and the dimension
registers (R302). -/
def listedRegions (s : State) : Instr → List (Nat × Nat)
  | .gst _ pa imm12 => [(baseOf s pa + imm12.toNat, 1)]
  | .mvmul pd _ _ => [(baseOf s pd, s.laRows.toNat)]
  | .minv pd _ => [(baseOf s pd, s.laRows.toNat * s.laRows.toNat)]
  | .msolve pd _ _ => [(baseOf s pd, s.laRows.toNat)]
  | .fgen pf => [(baseOf s pf, s.dimM.toNat * pszOf s)]
  | .pevala pd _ _ => [(baseOf s pd, s.dimM.toNat)]
  | .keygen pf pt pi => [(baseOf s pf, s.dimM.toNat * pszOf s), (baseOf s pt, s.dimN.toNat * s.dimN.toNat),
      (baseOf s pi, s.dimN.toNat * s.dimN.toNat)]
  | .drawv pd => [(baseOf s pd, s.dimV.toNat)]
  | .buildsys pa pb _ _ _ => [(baseOf s pa, s.dimM.toNat * s.dimM.toNat), (baseOf s pb, s.dimM.toNat)]
  | .sign ps _ _ _ => [(baseOf s ps, s.dimN.toNat)]
  | .nop | .gli _ _ | .gmv _ _ | .gld _ _ _ | .pli _ _ | .plui _ _ | .paddi _ _ _ | .pmv _ _ | .csrw _ _
  | .fadd _ _ _ | .fsub _ _ _ | .fmul _ _ _ | .finv _ _ | .peval _ _ _ | .verify _ _ _ _ => []

/-- The rows of an opcode that R94 assigns. -/
def assignedOps : List Nat :=
  [0x00, 0x01, 0x02, 0x03, 0x04, 0x05, 0x06, 0x07, 0x08, 0x09, 0x10, 0x11, 0x12, 0x13, 0x20, 0x21, 0x22, 0x30, 0x31,
   0x32, 0x40, 0x50, 0x51, 0x52, 0x60]

end Sys2Proof.Machine

open Sys2Proof Sys2Proof.Machine

/-! ### Reset, the host port and the life cycle of a command -/

/-- Section 7 of 10_state: both resets put every register and CSR at its value, at any time; after the hardware reset
OMEM is unspecified, which the model renders as the free byte of log 4 (the model's choice). The hardware reset requests
no RNG byte, and of the bytes offered only those that an abandoned command drew are gone (93 U4, logs 7 and 14; the bound
is the weaker "no more than were offered"). -/
def Obligations.ResetsPutRegistersAtTheirValues : Prop :=
  (RegistersReset State.reset ∧ ∀ a, State.reset.omemByte a = Config.powerOnByte 0 a)
    ∧ (∀ (s : State) (rest : List Event), s.agenda = .hardwareReset :: rest →
      ∃ t, step s = .next t ∧ RegistersReset t ∧ t.params = s.params ∧ t.agenda = rest ∧ t.answers = s.answers
        ∧ (∀ a, t.omemByte a = Config.powerOnByte (s.omemEpoch + 1) a)
        ∧ (s.busy = false → t.rng = s.rng)
        ∧ (s.busy = true → ∃ k, k ≤ s.rng.length ∧ t.rng = s.rng.drop k))
    ∧ (∀ (s : State) (w : Word) (rest : List Event), s.agenda = .host (.csrWrite 0x01#8 w) :: rest →
      w.getLsbD 31 = true →
      ∃ t, step s = .next t ∧ RegistersReset t ∧ t.params = s.params ∧ t.agenda = rest ∧ t.answers = s.answers)

/-- R302: the soft reset preserves OMEM; of a command in flight it leaves only the destination regions unspecified, those
that the command's rule lists. The length of an F region without `DimOK` is the model's choice (log 6); the bound on the
bytes drawn is the weaker "no more than were offered". -/
def Obligations.SoftResetPreservesOmem : Prop :=
  ∀ (s : State) (w : Word) (rest : List Event), s.agenda = .host (.csrWrite 0x01#8 w) :: rest →
    w.getLsbD 31 = true →
    ∃ t, step s = .next t ∧ t.busy = false
      ∧ (s.busy = false → SameOmem s t ∧ t.rng = s.rng)
      ∧ (s.busy = true →
        (∀ a, (∀ i, decode s.cmd = some i → ∀ q ∈ listedRegions s i, ¬ (q.1 ≤ a ∧ a < q.1 + q.2)) →
          t.omemByte a = s.omemByte a)
          ∧ (∀ i, decode s.cmd = some i → s.flightRegions = listedRegions s i)
          ∧ ∃ k, k ≤ s.rng.length ∧ t.rng = s.rng.drop k)

/-- R262, R41: a write of `CMD` while neither BUSY nor ERR is accepted, and nothing else changes; in any other situation
it is dropped and sets HAZ; a read returns the last accepted word. -/
def Obligations.CommandWriteIsAcceptedOrDropped : Prop :=
  ∀ (s : State) (w : Word) (rest : List Event),
    (s.agenda = .host (.csrWrite 0x05#8 w) :: rest →
      (s.busy = false → s.err = false → step s = .next { s with
        cmd := w
        busy := true
        done := false
        phase := .idle
        progress := 0
        valid := if w &&& 0xFF0000FF#32 = 0x60000000#32 then false else s.valid
        attempt := if w &&& 0xFF0000FF#32 = 0x52000000#32 ∨ w &&& 0xFF000FFF#32 = 0x40000000#32 then 0#32
          else s.attempt
        agenda := rest })
      ∧ (s.busy = true ∨ s.err = true → step s = .next { s with haz := true, agenda := rest }))
    ∧ (s.agenda = .host (.csrRead 0x05#8) :: rest →
      step s = .next { s with answers := .csr s.cmd :: s.answers, agenda := rest })

/-- 70 section 3 (R312, V17): a STATUS write that coincides with the end of the command in flight does not lose the new
DONE or ERR. -/
def Obligations.CoincidingClearDoesNotLoseTheEnd : Prop :=
  ∀ (s t : State) (w : Word) (rest : List Event), s.agenda = .statusWriteAtEnd w :: rest →
    s.busy = true → s.err = false → step s = .next t → t.busy = false →
    t.done = true ∧ ∀ u, engineTurn { s with agenda := rest } = .next u → u.err = true →
      t.err = true ∧ t.errcode = u.errcode ∧ t.errinfo = u.errinfo

/-- 70 section 3 (R310, R312), 10_state section 4 (R26, R28, R33): while BUSY the host may read any CSR and write `CTRL`
and `STATUS`, which acts on the bits as they are; every other access changes nothing but HAZ, and an OMEM read answers
some byte. -/
def Obligations.BusyHazardSetsHazAndNothingElse : Prop :=
  ∀ (s : State) (rest : List Event), s.busy = true →
    (∀ idx w, idx ≠ 0x01#8 → idx ≠ 0x02#8 → s.agenda = .host (.csrWrite idx w) :: rest →
      step s = .next { s with haz := true, agenda := rest })
    ∧ (∀ addr b, s.agenda = .host (.memWrite addr b) :: rest → step s = .next { s with haz := true, agenda := rest })
    ∧ (∀ addr, s.agenda = .host (.memRead addr) :: rest →
      ∃ b k, step s = .next { s with haz := true, answers := .mem b :: s.answers, freeCount := k, agenda := rest })
    ∧ (∀ idx, s.agenda = .host (.csrRead idx) :: rest →
      ∃ x, step s = .next { s with answers := .csr x :: s.answers, agenda := rest })
    ∧ (∀ w, w.getLsbD 31 = false → s.agenda = .host (.csrWrite 0x01#8 w) :: rest →
      step s = .next { s with ieDone := w.getLsbD 0, ieErr := w.getLsbD 1, agenda := rest })
    ∧ (∀ w, s.agenda = .host (.csrWrite 0x02#8 w) :: rest →
      step s = .next { s with
        done := s.done && !w.getLsbD 1
        err := s.err && !w.getLsbD 2
        haz := s.haz && !w.getLsbD 4
        errcode := if s.err = true ∧ w.getLsbD 2 = true then 0#4 else s.errcode
        errinfo := if s.err = true ∧ w.getLsbD 2 = true then 0#32 else s.errinfo
        agenda := rest })

/-- R275: the W1C of ERR clears ERR, ERRCODE and ERRINFO, restores nothing, does nothing with ERR already 0, and lets
the next command be accepted; both resets clear the error too. -/
def Obligations.ErrorClearEndsTheErrorState : Prop :=
  (∀ (s : State) (w : Word) (rest : List Event), s.agenda = .host (.csrWrite 0x02#8 w) :: rest →
    w.getLsbD 2 = true →
    ∃ t, step s = .next t
      ∧ (s.err = true → t.err = false ∧ t.errcode = 0#4 ∧ t.errinfo = 0#32)
      ∧ (s.err = false → t.err = false ∧ t.errcode = s.errcode ∧ t.errinfo = s.errinfo)
      ∧ SameG s t ∧ SameP s t ∧ SameOmem s t ∧ SameShape s t ∧ SameResults s t ∧ t.busy = s.busy ∧ t.cmd = s.cmd
      ∧ t.agenda = rest
      ∧ (∀ c rest', s.busy = false → rest = .host (.csrWrite 0x05#8 c) :: rest' →
        ∃ u, step t = .next u ∧ u.busy = true ∧ u.cmd = c))
    ∧ (∀ s : State, (softReset s).err = false ∧ (softReset s).errcode = 0#4 ∧ (softReset s).errinfo = 0#32)
    ∧ ∀ s : State, (hardwareReset s).err = false ∧ (hardwareReset s).errcode = 0#4 ∧ (hardwareReset s).errinfo = 0#32

/-- R280: `irq` is the level (DONE and IE_DONE) or (ERR and IE_ERR) at all times; it is 0 after reset; a W1C of the
bit, accepting the next command, or clearing the enable clears it. -/
def Obligations.IrqIsALevelOfDoneAndErr : Prop :=
  (∀ s : State, s.irq = ((s.done && s.ieDone) || (s.err && s.ieErr)))
    ∧ (∀ p, (State.resetWith p).irq = false)
    ∧ (∀ s : State, s.done = true → (writeEnables 0x1#32 s).irq = true)
    ∧ (∀ s : State, (writeStatus 0x6#32 s).irq = false)
    ∧ (∀ s : State, (writeEnables 0x0#32 s).irq = false)
    ∧ ∀ (s : State) (w : Word), s.err = false → (acceptCommand w s).irq = false

/-- 10_state section 4 (R32, R33), 60 section 1 (R260): where the bits of `STATUS` and `CTRL` are; every other bit reads
0; the codes of `PHASE` and of the eight errors. -/
def Obligations.StatusAndCtrlBitPlaces : Prop :=
  ∀ s : State,
    s.statusWord.getLsbD 0 = s.busy ∧ s.statusWord.getLsbD 1 = s.done ∧ s.statusWord.getLsbD 2 = s.err
      ∧ s.statusWord.getLsbD 3 = s.valid ∧ s.statusWord.getLsbD 4 = s.haz
      ∧ s.statusWord.extractLsb' 8 3 = s.phase.code
      ∧ (∀ i, (5 ≤ i ∧ i ≤ 7) ∨ 11 ≤ i → s.statusWord.getLsbD i = false)
      ∧ s.ctrlWord.getLsbD 0 = s.ieDone ∧ s.ctrlWord.getLsbD 1 = s.ieErr
      ∧ (∀ i, 2 ≤ i → s.ctrlWord.getLsbD i = false)
      ∧ [Phase.idle, .drawVinegar, .buildSystem, .solve, .retry, .success, .failure].map Phase.code
          = [0#3, 1#3, 2#3, 3#3, 4#3, 5#3, 6#3]
      ∧ [ErrorKind.dimension, .singularMatrix, .signingExhausted, .fieldInverse, .format, .illegalCommand, .addressRange,
          .keygenExhausted].map ErrorKind.code = [1#4, 2#4, 3#4, 4#4, 5#4, 6#4, 7#4, 8#4]

/-- 10_state section 4 (R26, R27, R29, R31 to R43): a CSR read answers the current value of the map's CSR and has no
side effect; reserved indices read 0. -/
def Obligations.CsrReadsFollowTheMap : Prop :=
  ∀ s : State,
    (∀ (idx : BitVec 8) (rest : List Event), s.agenda = .host (.csrRead idx) :: rest →
      step s = .next { s with answers := .csr (s.csrValue (csrOfIndex idx)) :: s.answers, agenda := rest })
    ∧ s.csrValue (csrOfIndex 0x00#8) = 0x554F5601#32
    ∧ s.csrValue (csrOfIndex 0x01#8) = s.ctrlWord
    ∧ s.csrValue (csrOfIndex 0x02#8) = s.statusWord
    ∧ (s.csrValue (csrOfIndex 0x03#8)).toNat = s.errcode.toNat
    ∧ s.csrValue (csrOfIndex 0x04#8) = s.errinfo
    ∧ s.csrValue (csrOfIndex 0x05#8) = s.cmd
    ∧ (s.csrValue (csrOfIndex 0x06#8)).toNat = s.dimN.toNat
    ∧ (s.csrValue (csrOfIndex 0x07#8)).toNat = s.dimV.toNat
    ∧ (s.csrValue (csrOfIndex 0x08#8)).toNat = s.dimM.toNat
    ∧ (s.csrValue (csrOfIndex 0x09#8)).toNat = s.laRows.toNat
    ∧ (s.csrValue (csrOfIndex 0x0A#8)).toNat = s.laCols.toNat
    ∧ (s.csrValue (csrOfIndex 0x0B#8)).toNat = s.sigLen.toNat
    ∧ (s.csrValue (csrOfIndex 0x0C#8)).toNat = s.tgtLen.toNat
    ∧ s.csrValue (csrOfIndex 0x0D#8) = s.attempt
    ∧ s.csrValue (csrOfIndex 0x0E#8) = 1000#32
    ∧ s.csrValue (csrOfIndex 0x0F#8) = BitVec.ofNat 32 s.params.omemSize
    ∧ (∀ r : Fin 16, (s.csrValue (csrOfIndex (BitVec.ofNat 8 (0x10 + r.val)))).toNat = (s.readG r).toNat)
    ∧ (∀ r : Fin 16, s.csrValue (csrOfIndex (BitVec.ofNat 8 (0x20 + r.val))) = s.readP r)
    ∧ ∀ idx : BitVec 8, 0x30 ≤ idx.toNat → s.csrValue (csrOfIndex idx) = 0#32

/-- 10_state section 4 (R26, R29, R32, R33, R35 to R37, R42, R43), 60 section 5 (R275): what a host write of any CSR but
`CMD` does while not BUSY, the soft reset apart, and that it does nothing else. -/
def Obligations.IdleCsrWritesFollowTheMap : Prop :=
  ∀ (s : State) (idx : BitVec 8) (w : Word) (rest : List Event), s.busy = false →
    s.agenda = .host (.csrWrite idx w) :: rest →
    (idx = 0x01#8 → w.getLsbD 31 = false →
      step s = .next { s with ieDone := w.getLsbD 0, ieErr := w.getLsbD 1, agenda := rest })
    ∧ (idx = 0x02#8 → step s = .next { s with
        done := s.done && !w.getLsbD 1
        err := s.err && !w.getLsbD 2
        haz := s.haz && !w.getLsbD 4
        errcode := if s.err = true ∧ w.getLsbD 2 = true then 0#4 else s.errcode
        errinfo := if s.err = true ∧ w.getLsbD 2 = true then 0#32 else s.errinfo
        agenda := rest })
    ∧ (idx = 0x06#8 → step s = .next { s with dimN := w.setWidth 8, agenda := rest })
    ∧ (idx = 0x07#8 → step s = .next { s with dimV := w.setWidth 8, agenda := rest })
    ∧ (idx = 0x08#8 → step s = .next { s with dimM := w.setWidth 8, agenda := rest })
    ∧ (idx = 0x09#8 → step s = .next { s with laRows := w.setWidth 8, agenda := rest })
    ∧ (idx = 0x0A#8 → step s = .next { s with laCols := w.setWidth 8, agenda := rest })
    ∧ (idx = 0x0B#8 → step s = .next { s with sigLen := w.setWidth 8, agenda := rest })
    ∧ (idx = 0x0C#8 → step s = .next { s with tgtLen := w.setWidth 8, agenda := rest })
    ∧ (∀ r : Fin 16, idx = BitVec.ofNat 8 (0x10 + r.val) →
      step s = .next { s with g := s.g.set r (w.setWidth 8), agenda := rest })
    ∧ (∀ r : Fin 16, idx = BitVec.ofNat 8 (0x20 + r.val) →
      step s = .next { s with p := s.p.set r w, agenda := rest })
    ∧ (idx.toNat ∈ [0x00, 0x03, 0x04, 0x0D, 0x0E, 0x0F] ∨ 0x30 ≤ idx.toNat → step s = .next { s with agenda := rest })

/-- R77: host access to OMEM, idle or BUSY, inside and beyond OMEM_SIZE; an error latched makes no difference. -/
def Obligations.HostOmemAccessFollowsItsRule : Prop :=
  ∀ (s : State) (addr : Nat) (rest : List Event),
    (s.agenda = .host (.memRead addr) :: rest →
      (s.busy = false → addr < s.params.omemSize →
        step s = .next { s with answers := .mem (s.omemByte addr) :: s.answers, agenda := rest })
      ∧ (s.busy = false → s.params.omemSize ≤ addr →
        step s = .next { s with haz := true, answers := .mem 0x00#8 :: s.answers, agenda := rest })
      ∧ (s.busy = true → ∃ b k,
        step s = .next { s with haz := true, answers := .mem b :: s.answers, freeCount := k, agenda := rest }))
    ∧ (∀ b, s.agenda = .host (.memWrite addr b) :: rest →
      (s.busy = false → addr < s.params.omemSize →
        ∃ t, step s = .next t ∧ t.omemByte addr = b ∧ SameOmemOutside addr 1 s t
          ∧ { t with omem := s.omem } = { s with agenda := rest })
      ∧ (s.busy = false → s.params.omemSize ≤ addr → step s = .next { s with haz := true, agenda := rest })
      ∧ (s.busy = true → step s = .next { s with haz := true, agenda := rest }))

/-! ### Encoding -/

/-- R96: a word with an unassigned opcode, or with a 1 in a must-be-zero bit (R95), matches no row of R94; a word that
matches no row is accepted when issued, and at once faults with IllegalCommandError, drawing nothing. -/
def Obligations.IllegalWordFaults : Prop :=
  (∀ w : Word, (w.extractLsb' 24 8).toNat ∉ assignedOps → ∀ r ∈ opcodeRows, w &&& r.mask ≠ r.pattern)
    ∧ (∀ (w : Word), ∀ r ∈ opcodeRows, w.extractLsb' 24 8 = r.pattern.extractLsb' 24 8 →
      (w &&& r.mask).extractLsb' 0 24 ≠ 0#24 → ∀ q ∈ opcodeRows, w &&& q.mask ≠ q.pattern)
    ∧ (∀ (s : State) (rest : List Event), s.busy = true → (∀ r ∈ opcodeRows, s.cmd &&& r.mask ≠ r.pattern) →
      s.agenda = .engine :: rest →
      ∃ t, step s = .next t ∧ Latches .illegalCommand { s with agenda := rest } t ∧ SameResults s t ∧ t.rng = s.rng)
    ∧ ∀ (s : State) (w : Word) (rest : List Event), s.busy = false → s.err = false →
      (∀ r ∈ opcodeRows, w &&& r.mask ≠ r.pattern) → s.agenda = .host (.csrWrite 0x05#8 w) :: .engine :: rest →
      ∃ t u, step s = .next t ∧ t.busy = true ∧ t.cmd = w ∧ step t = .next u ∧ u.busy = false ∧ u.err = true
        ∧ u.errcode = 6#4 ∧ u.errinfo = w ∧ SameG s u ∧ SameP s u ∧ SameOmem s u ∧ u.rng = s.rng

/-- R101, R94: the decoder accepts exactly the words that match a row of the table, and no word matches two rows. -/
def Obligations.DecoderAcceptsExactlyTheTable : Prop :=
  (∀ w : Word, (decode w).isSome = true ↔ ∃ r ∈ opcodeRows, w &&& r.mask = r.pattern)
    ∧ opcodeRows.Pairwise (fun r q => ∀ w : Word, ¬ (w &&& r.mask = r.pattern ∧ w &&& q.mask = q.pattern))

/-- R90 to R94: decoding the word of a command gives the command back, whatever its operands. -/
def Obligations.DecodeOfEncodeIsTheCommand : Prop := ∀ i : Instr, decode (encode i) = some i

/-- R94, R101: a word that decodes to a command is that command's word, so every word has one meaning. -/
def Obligations.EncodeOfDecodeIsTheWord : Prop := ∀ (w : Word) (i : Instr), decode w = some i → encode i = w

/-- 95_test_vectors sections 2.5 and 4: words of every family and what they decode as. -/
def Obligations.KnownWordsDecodeRight : Prop :=
  decode 0x00000000#32 = some .nop ∧ decode 0x00000001#32 = none ∧ decode 0x10123000#32 = some (.fadd 1 2 3)
    ∧ decode 0x10123001#32 = none ∧ decode 0x13120000#32 = some (.finv 1 2) ∧ decode 0x01100057#32 = some (.gli 1 0x57)
    ∧ decode 0x01110057#32 = none ∧ decode 0x30500000#32 = some (.fgen 5)
    ∧ decode 0x51012340#32 = some (.buildsys 0 1 2 3 4) ∧ decode 0x51012345#32 = none
    ∧ decode 0x52012300#32 = some (.sign 0 1 2 3) ∧ decode 0x60FFFF00#32 = some (.verify 15 15 15 15)
    ∧ decode 0x0721000A#32 = some (.paddi 2 1 10) ∧ decode 0xFFFFFFFF#32 = none
    ∧ decode 0x20312000#32 = some (.mvmul 3 1 2) ∧ decode 0x21410000#32 = some (.minv 4 1)
    ∧ decode 0x22213000#32 = some (.msolve 2 1 3) ∧ decode 0x40012000#32 = some (.keygen 0 1 2)

/-- 60 section 2 (R264): with a command in flight the engine's turn is the meaning of the decoded command, whether the
agenda names the turn or is empty; a word placed by `withFetchWord` is executed by the very next step (log 13). -/
def Obligations.StepRunsTheDecodedCommand : Prop :=
  ∀ (s : State) (i : Instr) (rest : List Event),
    (s.busy = true → decode s.cmd = some i → s.agenda = .engine :: rest → step s = exec i { s with agenda := rest })
    ∧ (s.busy = true → decode s.cmd = some i → s.agenda = [] → step s = exec i s)
    ∧ ∀ w : Word, decode w = some i → step (s.withFetchWord 32 w.toNat) = exec i (acceptCommand w s)

/-- 60 section 12 (R289): an idle block keeps all state. -/
def Obligations.IdleEngineKeepsAllState : Prop :=
  ∀ (s : State) (rest : List Event), s.busy = false →
    (s.agenda = [] → step s = .next s) ∧ (s.agenda = .engine :: rest → step s = .next { s with agenda := rest })

/-! ### Data movement and control -/

/-- R230: NOP changes nothing but what every completion changes, and so raises `irq` if IE_DONE is set. -/
def Obligations.NopOnlyCompletes : Prop :=
  EncodesAs .nop 0x00000000#32 ∧ (∀ w : Word, (w.extractLsb' 24 8) = 0x00#8 → w ≠ 0#32 → decode w = none)
    ∧ ∀ s : State, ∃ t, exec .nop s = .next t ∧ CompletesPlain s t ∧ SameG s t ∧ SameP s t ∧ SameOmem s t
      ∧ (s.ieDone = true → t.irq = true)

/-- R231, R232: GLI and GMV write one G register and nothing else. -/
def Obligations.FieldRegisterMoves : Prop :=
  ∀ (gd ga : GReg) (imm8 : BitVec 8) (s : State),
    EncodesAs (.gli gd imm8) (0x01#8 ++ (fieldOfReg gd ++ (0#12 ++ imm8)))
    ∧ EncodesAs (.gmv gd ga) (0x02#8 ++ (fieldOfReg gd ++ (fieldOfReg ga ++ 0#16)))
    ∧ (∃ t, exec (.gli gd imm8) s = .next t ∧ CompletesPlain s t ∧ WritesG gd imm8 s t ∧ SameP s t ∧ SameOmem s t)
    ∧ ∃ t, exec (.gmv gd ga) s = .next t ∧ CompletesPlain s t ∧ WritesG gd (s.readG ga) s t ∧ SameP s t ∧ SameOmem s t

/-- R235 to R238: PLI, PLUI, PADDI and PMV write one P register and nothing else; PADDI wraps modulo 2^32. -/
def Obligations.PointerRegisterMoves : Prop :=
  ∀ (pd pa : PReg) (imm16 : BitVec 16) (simm12 : BitVec 12) (s : State),
    EncodesAs (.pli pd imm16) (0x05#8 ++ (fieldOfReg pd ++ (0#4 ++ imm16)))
    ∧ EncodesAs (.plui pd imm16) (0x06#8 ++ (fieldOfReg pd ++ (0#4 ++ imm16)))
    ∧ EncodesAs (.paddi pd pa simm12) (0x07#8 ++ (fieldOfReg pd ++ (fieldOfReg pa ++ (0#4 ++ simm12))))
    ∧ EncodesAs (.pmv pd pa) (0x08#8 ++ (fieldOfReg pd ++ (fieldOfReg pa ++ 0#16)))
    ∧ (∃ t, exec (.pli pd imm16) s = .next t ∧ CompletesPlain s t ∧ SameG s t ∧ SameOmem s t
      ∧ WritesP pd (BitVec.ofNat 32 imm16.toNat) s t)
    ∧ (∃ t, exec (.plui pd imm16) s = .next t ∧ CompletesPlain s t ∧ SameG s t ∧ SameOmem s t
      ∧ WritesP pd (BitVec.ofNat 32 (imm16.toNat * 2 ^ 16 + (s.readP pd).toNat % 2 ^ 16)) s t)
    ∧ (∃ t, exec (.paddi pd pa simm12) s = .next t ∧ CompletesPlain s t ∧ SameG s t ∧ SameOmem s t
      ∧ WritesP pd (BitVec.ofInt 32 ((s.readP pa).toNat + simm12.toInt)) s t)
    ∧ ∃ t, exec (.pmv pd pa) s = .next t ∧ CompletesPlain s t ∧ SameG s t ∧ SameOmem s t
      ∧ WritesP pd (s.readP pa) s t

/-- R233, R234: GLD and GST, with their address on natural numbers and their range error; GST stores one byte. -/
def Obligations.ByteLoadAndStore : Prop :=
  ∀ (g : GReg) (pa : PReg) (imm12 : BitVec 12) (s : State),
    EncodesAs (.gld g pa imm12) (0x03#8 ++ (fieldOfReg g ++ (fieldOfReg pa ++ (0#4 ++ imm12))))
    ∧ EncodesAs (.gst g pa imm12) (0x04#8 ++ (fieldOfReg g ++ (fieldOfReg pa ++ (0#4 ++ imm12))))
    ∧ (s.params.omemSize ≤ baseOf s pa + imm12.toNat →
      Faults (.gld g pa imm12) .addressRange s ∧ Faults (.gst g pa imm12) .addressRange s)
    ∧ (baseOf s pa + imm12.toNat < s.params.omemSize →
      (∃ t, exec (.gld g pa imm12) s = .next t ∧ CompletesPlain s t ∧ SameP s t ∧ SameOmem s t
        ∧ WritesG g (s.omemByte (baseOf s pa + imm12.toNat)) s t)
      ∧ ∃ t, exec (.gst g pa imm12) s = .next t ∧ CompletesPlain s t ∧ SameG s t ∧ SameP s t
        ∧ t.omemByte (baseOf s pa + imm12.toNat) = s.readG g
        ∧ SameOmemOutside (baseOf s pa + imm12.toNat) 1 s t)

/-- R239: CSRW writes the low 8 bits of its immediate to one of seven CSRs; any other index is IllegalCommandError. -/
def Obligations.CsrwWritesShapeRegistersOnly : Prop :=
  ∀ (csr : BitVec 8) (imm16 : BitVec 16) (s : State),
    EncodesAs (.csrw csr imm16) (0x09#8 ++ (csr ++ imm16))
    ∧ (¬ (0x06 ≤ csr.toNat ∧ csr.toNat ≤ 0x0C) → Faults (.csrw csr imm16) .illegalCommand s)
    ∧ (0x06 ≤ csr.toNat → csr.toNat ≤ 0x0C →
      ∃ t, exec (.csrw csr imm16) s = .next t ∧ Completes s t ∧ SameG s t ∧ SameP s t ∧ SameOmem s t
        ∧ SameResults s t ∧ t.rng = s.rng
        ∧ (t.csrValue (csrOfIndex csr)).toNat = imm16.toNat % 256
        ∧ ∀ other : BitVec 8, other ≠ csr → 0x06 ≤ other.toNat → other.toNat ≤ 0x0C →
          t.csrValue (csrOfIndex other) = s.csrValue (csrOfIndex other))

/-! ### Field arithmetic -/

/-- 40 section 2 (R120, R121): addition and subtraction are xor. The laws are the spec's own inference ("derived: from the
definition"). -/
def Obligations.FieldAdditionIsXor : Prop :=
  ∀ a b c : Byte, fadd a b = a ^^^ b ∧ fsub a b = a ^^^ b ∧ fsub a b = fadd a b ∧ fadd a b = fadd b a
    ∧ fadd (fadd a b) c = fadd a (fadd b c) ∧ fadd a 0x00#8 = a ∧ fadd a a = 0x00#8

/-- 40 section 2 (R122): the product with 02, which says that the field is that of 0x11D, and the laws of
multiplication, which are the spec's own inference; with them it determines `fmul`. -/
def Obligations.FieldMultiplicationLaws : Prop :=
  ∀ a b c : Byte, fmul a b = fmul b a ∧ fmul (fmul a b) c = fmul a (fmul b c) ∧ fmul a 0x01#8 = a
    ∧ fmul a 0x00#8 = 0x00#8 ∧ (fmul a b = 0x00#8 → a = 0x00#8 ∨ b = 0x00#8)
    ∧ fmul a (fadd b c) = fadd (fmul a b) (fmul a c)
    ∧ fmul a 0x02#8 = if a.getLsbD 7 = true then (a <<< 1) ^^^ 0x1D#8 else a <<< 1

/-- 40 section 2 (R123): `finv` is the one inverse of every non-zero element, and an involution. -/
def Obligations.FieldInverseIsUnique : Prop :=
  finv 0x01#8 = 0x01#8 ∧ ∀ a : Byte, a ≠ 0x00#8 →
    fmul a (finv a) = 0x01#8 ∧ (∀ b, fmul a b = 0x01#8 → b = finv a) ∧ finv (finv a) = a

/-- R124, R125, R126: FADD, FSUB and FMUL write one G register and nothing else; they cannot fault. -/
def Obligations.FieldAddSubMulCommands : Prop :=
  ∀ (gd ga gb : GReg) (s : State),
    EncodesAs (.fadd gd ga gb) (0x10#8 ++ (fieldOfReg gd ++ (fieldOfReg ga ++ (fieldOfReg gb ++ 0#12))))
    ∧ EncodesAs (.fsub gd ga gb) (0x11#8 ++ (fieldOfReg gd ++ (fieldOfReg ga ++ (fieldOfReg gb ++ 0#12))))
    ∧ EncodesAs (.fmul gd ga gb) (0x12#8 ++ (fieldOfReg gd ++ (fieldOfReg ga ++ (fieldOfReg gb ++ 0#12))))
    ∧ (∃ t, exec (.fadd gd ga gb) s = .next t ∧ CompletesPlain s t ∧ SameP s t ∧ SameOmem s t
      ∧ WritesG gd (s.readG ga ^^^ s.readG gb) s t)
    ∧ (∃ t, exec (.fsub gd ga gb) s = .next t ∧ CompletesPlain s t ∧ SameP s t ∧ SameOmem s t
      ∧ WritesG gd (s.readG ga ^^^ s.readG gb) s t)
    ∧ ∃ t, exec (.fmul gd ga gb) s = .next t ∧ CompletesPlain s t ∧ SameP s t ∧ SameOmem s t
      ∧ WritesG gd (fmul (s.readG ga) (s.readG gb)) s t

/-- R127: FINV writes the one inverse, and faults exactly when its operand is 0. -/
def Obligations.FieldInverseCommand : Prop :=
  ∀ (gd ga : GReg) (s : State),
    EncodesAs (.finv gd ga) (0x13#8 ++ (fieldOfReg gd ++ (fieldOfReg ga ++ 0#16)))
    ∧ (s.readG ga = 0x00#8 → Faults (.finv gd ga) .fieldInverse s)
    ∧ (s.readG ga ≠ 0x00#8 → ∃ t x, exec (.finv gd ga) s = .next t ∧ CompletesPlain s t ∧ SameP s t ∧ SameOmem s t
      ∧ WritesG gd x s t ∧ fmul (s.readG ga) x = 0x01#8 ∧ ∀ b, fmul (s.readG ga) b = 0x01#8 → b = x)

/-! ### Linear algebra -/

/-- R144: MVMUL. -/
def Obligations.MatrixVectorCommand : Prop :=
  ∀ (pd pm pv : PReg) (s : State),
    let r := s.laRows.toNat
    let c := s.laCols.toNat
    let ranges := Fits s pm (r * c) ∧ Fits s pv c ∧ Fits s pd r
    EncodesAs (.mvmul pd pm pv) (0x20#8 ++ (fieldOfReg pd ++ (fieldOfReg pm ++ (fieldOfReg pv ++ 0#12))))
    ∧ (r = 0 ∨ c = 0 → Faults (.mvmul pd pm pv) .dimension s)
    ∧ (1 ≤ r → 1 ≤ c → ¬ ranges → Faults (.mvmul pd pm pv) .addressRange s)
    ∧ (1 ≤ r → 1 ≤ c → ranges → ∃ t, exec (.mvmul pd pm pv) s = .next t ∧ CompletesPlain s t ∧ SameG s t ∧ SameP s t
      ∧ SameOmemOutside (baseOf s pd) r s t
      ∧ ∀ i, i < r → t.omemByte (baseOf s pd + i)
          = xorUpTo c (fun j => fmul (s.omemByte (baseOf s pm + i * c + j)) (s.omemByte (baseOf s pv + j))))

/-- R145: MINV; `minv` itself is settled by the statements about it. -/
def Obligations.MatrixInverseCommand : Prop :=
  ∀ (pd pm : PReg) (s : State),
    let k := s.laRows.toNat
    let square := 1 ≤ k ∧ s.laCols.toNat = k
    let ranges := Fits s pm (k * k) ∧ Fits s pd (k * k)
    EncodesAs (.minv pd pm) (0x21#8 ++ (fieldOfReg pd ++ (fieldOfReg pm ++ 0#16)))
    ∧ (¬ square → Faults (.minv pd pm) .dimension s)
    ∧ (square → ¬ ranges → Faults (.minv pd pm) .addressRange s)
    ∧ (square → ranges → minv k (matOn s (baseOf s pm) k) = none → Faults (.minv pd pm) .singularMatrix s)
    ∧ ∀ e, square → ranges → minv k (matOn s (baseOf s pm) k) = some e →
      ∃ t, exec (.minv pd pm) s = .next t ∧ CompletesPlain s t ∧ SameG s t ∧ SameP s t
        ∧ SameOmemOutside (baseOf s pd) (k * k) s t
        ∧ ∀ i j, i < k → j < k → t.omemByte (baseOf s pd + (i * k + j)) = matAt e i j

/-- 41 section 3 (R146): MSOLVE, whose result is by definition `matvec(minv(M), b)`. That the result solves the system is
the spec's own inference from R142. -/
def Obligations.SolveCommand : Prop :=
  ∀ (pd pm pb : PReg) (s : State),
    let k := s.laRows.toNat
    let square := 1 ≤ k ∧ s.laCols.toNat = k
    let ranges := Fits s pm (k * k) ∧ Fits s pb k ∧ Fits s pd k
    EncodesAs (.msolve pd pm pb) (0x22#8 ++ (fieldOfReg pd ++ (fieldOfReg pm ++ (fieldOfReg pb ++ 0#12))))
    ∧ (¬ square → Faults (.msolve pd pm pb) .dimension s)
    ∧ (square → ¬ ranges → Faults (.msolve pd pm pb) .addressRange s)
    ∧ (square → ranges → minv k (matOn s (baseOf s pm) k) = none → Faults (.msolve pd pm pb) .singularMatrix s)
    ∧ ∀ e, square → ranges → minv k (matOn s (baseOf s pm) k) = some e →
      ∃ t, exec (.msolve pd pm pb) s = .next t ∧ CompletesPlain s t ∧ SameG s t ∧ SameP s t
        ∧ SameOmemOutside (baseOf s pd) k s t
        ∧ (∀ i, i < k → t.omemByte (baseOf s pd + i)
            = xorUpTo k (fun j => fmul (matAt e i j) (s.omemByte (baseOf s pb + j))))
        ∧ ∀ i, i < k → xorUpTo k (fun j => fmul (s.omemByte (baseOf s pm + i * k + j)) (t.omemByte (baseOf s pd + j)))
            = s.omemByte (baseOf s pb + i)

/-- 41 section 1 (R142 a, b): what `minv` returns is the two-sided inverse, and the only one. -/
def Obligations.MinvIsTheTwoSidedInverse : Prop :=
  ∀ (k : Nat) (m : Nat → Nat → Byte) (e : Mat), minv k (matOf k k m) = some e →
    (∀ x : Vec, x.length = k → matvec k k e (matvec k k (matOf k k m) x) = x
      ∧ matvec k k (matOf k k m) (matvec k k e x) = x)
    ∧ ∀ e' : Mat, (∀ x : Vec, x.length = k → matvec k k e' (matvec k k (matOf k k m) x) = x) →
      ∀ i j, i < k → j < k → matAt e' i j = matAt e i j

/-- 41 section 1 (R142 c): `minv` says Singular exactly when there is no inverse. -/
def Obligations.SingularExactlyWhenNoInverse : Prop :=
  ∀ (k : Nat) (m : Nat → Nat → Byte), minv k (matOf k k m) = none ↔
    ¬ ∃ e : Mat, ∀ x : Vec, x.length = k → matvec k k e (matvec k k (matOf k k m) x) = x

/-! ### Central map -/

/-- 42 section 4 (R164): FGEN draws m*PSZ bytes into the region, in order, and draws nothing when it faults. That it stays
in flight while the RNG source has not answered is 10_state R47 as log 10 renders it. -/
def Obligations.GenerateCommand : Prop :=
  ∀ (pf : PReg) (s : State),
    let len := s.dimM.toNat * pszOf s
    EncodesAs (.fgen pf) (0x30#8 ++ (fieldOfReg pf ++ 0#20))
    ∧ (¬ DimOK s → Faults (.fgen pf) .dimension s)
    ∧ (DimOK s → ¬ Fits s pf len → Faults (.fgen pf) .addressRange s)
    ∧ (DimOK s → Fits s pf len → s.rng.length < len → ∃ t, exec (.fgen pf) s = .next t ∧ StaysInFlight s t
      ∧ SameResults s t ∧ t.rng = s.rng)
    ∧ (DimOK s → Fits s pf len → len ≤ s.rng.length → ∃ t, exec (.fgen pf) s = .next t ∧ Completes s t ∧ SameG s t
      ∧ SameP s t ∧ SameShape s t ∧ SameResults s t ∧ t.rng = s.rng.drop len
      ∧ SameOmemOutside (baseOf s pf) len s t
      ∧ ∀ k, k < len → t.omemByte (baseOf s pf + k) = s.rng.getD k 0#8)

/-- R165: PEVAL writes the value of the polynomial to one G register. -/
def Obligations.EvaluateCommand : Prop :=
  ∀ (gd : GReg) (pp px : PReg) (s : State),
    let ranges := Fits s pp (pszOf s) ∧ Fits s px s.dimN.toNat
    EncodesAs (.peval gd pp px) (0x31#8 ++ (fieldOfReg gd ++ (fieldOfReg pp ++ (fieldOfReg px ++ 0#12))))
    ∧ (¬ DimOK s → Faults (.peval gd pp px) .dimension s)
    ∧ (DimOK s → ¬ ranges → Faults (.peval gd pp px) .addressRange s)
    ∧ (DimOK s → ranges → ∃ t, exec (.peval gd pp px) s = .next t ∧ CompletesPlain s t ∧ SameP s t ∧ SameOmem s t
      ∧ WritesG gd (evalOn s (baseOf s pp) (fun k => s.omemByte (baseOf s px + k))) s t)

/-- R166: PEVALA writes the values of all m polynomials. -/
def Obligations.EvaluateAllCommand : Prop :=
  ∀ (pd pf px : PReg) (s : State),
    let m := s.dimM.toNat
    let ranges := Fits s pf (m * pszOf s) ∧ Fits s px s.dimN.toNat ∧ Fits s pd m
    EncodesAs (.pevala pd pf px) (0x32#8 ++ (fieldOfReg pd ++ (fieldOfReg pf ++ (fieldOfReg px ++ 0#12))))
    ∧ (¬ DimOK s → Faults (.pevala pd pf px) .dimension s)
    ∧ (DimOK s → ¬ ranges → Faults (.pevala pd pf px) .addressRange s)
    ∧ (DimOK s → ranges → ∃ t, exec (.pevala pd pf px) s = .next t ∧ CompletesPlain s t ∧ SameG s t ∧ SameP s t
      ∧ SameOmemOutside (baseOf s pd) m s t
      ∧ ∀ i, i < m → t.omemByte (baseOf s pd + i)
          = evalOn s (baseOf s pf + i * pszOf s) (fun k => s.omemByte (baseOf s px + k)))

/-- 42 section 2 (R167): for fixed vinegar values every polynomial is affine in the oil values, with `vinpart` and
`coef`; the formula is the spec's own inference from R161 and R122. -/
def Obligations.AffineInTheOilVariables : Prop :=
  ∀ (n v : Nat) (q : Poly) (xv xo : Vec), v ≤ n → xv.length = v → xo.length = n - v →
    evaluate n v q (xv ++ xo)
        = vinpart v q xv ^^^ xorUpTo (n - v) (fun j => fmul (coef v q xv j) (vecAt xo j))
      ∧ vinpart v q xv = q.const
          ^^^ xorUpTo v (fun i => xorUpTo v (fun k => fmul (fmul (matAt q.vv i k) (vecAt xv i)) (vecAt xv k)))
          ^^^ xorUpTo v (fun i => fmul (vecAt q.lin i) (vecAt xv i))
      ∧ ∀ j, coef v q xv j = xorUpTo v (fun i => fmul (matAt q.vo i j) (vecAt xv i)) ^^^ vecAt q.lin (v + j)

/-- 44 section 3 (R193, its key property, the spec's own inference): the solutions of `matvec(A, xo) = b` are the oil values that hit the target. -/
def Obligations.SystemSolutionsHitTheTarget : Prop :=
  ∀ (n v m : Nat) (f : List Poly) (xv xo tgt : Vec), n = v + m → f.length = m → tgt.length = m → xv.length = v →
    xo.length = m →
    (evaluateAll n v f (xv ++ xo) = tgt ↔ matvec m m (sysMat v m f xv) xo = sysVec v f xv tgt)

/-! ### Key generator -/

/-- 43 (R182): with the a-th candidate the first invertible one and the budget not reached, KEYGEN writes F, T and T
inverse in that order, the later write winning (R70), and counts its draws. -/
def Obligations.KeygenWritesTheFirstInvertibleKey : Prop :=
  ∀ (pf pt pi : PReg) (s : State) (a : Nat) (e : Mat),
    let n := s.dimN.toNat
    let len := s.dimM.toNat * pszOf s
    DimOK s → KeygenFits s pf pt pi → (∀ b, s.params.keygenBudget = some b → a < b) →
    len + (a + 1) * (n * n) ≤ s.rng.length →
    (∀ j, j < a → minv n (candidateT s j) = none) → minv n (candidateT s a) = some e →
    ∃ t, exec (.keygen pf pt pi) s = .next t ∧ Completes s t ∧ SameG s t ∧ SameP s t ∧ SameShape s t
      ∧ t.valid = s.valid ∧ t.phase = s.phase ∧ t.attempt = BitVec.ofNat 32 (min (a + 1) (2 ^ 32 - 1))
      ∧ t.rng = s.rng.drop (len + (a + 1) * (n * n))
      ∧ ∀ x, t.omemByte x =
          if baseOf s pi ≤ x ∧ x < baseOf s pi + n * n then matAt e ((x - baseOf s pi) / n) ((x - baseOf s pi) % n)
          else if baseOf s pt ≤ x ∧ x < baseOf s pt + n * n then
            s.rng.getD (len + a * (n * n) + (x - baseOf s pt)) 0#8
          else if baseOf s pf ≤ x ∧ x < baseOf s pf + len then s.rng.getD (x - baseOf s pf) 0#8
          else s.omemByte x

/-- 43 (R181, R182, R183): any finite budget of singular candidates ends in KeygenExhaustedError, with nothing written and
the bytes consumed. For a budget above 2^32 - 1 that is the model's choice (log 22). -/
def Obligations.KeygenBudgetExhaustion : Prop :=
  ∀ (pf pt pi : PReg) (s : State) (b : Nat),
    let n := s.dimN.toNat
    let len := s.dimM.toNat * pszOf s
    DimOK s → KeygenFits s pf pt pi → s.params.keygenBudget = some b →
    len + b * (n * n) ≤ s.rng.length → (∀ j, j < b → minv n (candidateT s j) = none) →
    ∃ t, exec (.keygen pf pt pi) s = .next t ∧ Latches .keygenExhausted s t ∧ t.valid = s.valid ∧ t.phase = s.phase
      ∧ t.attempt = BitVec.ofNat 32 (min b (2 ^ 32 - 1)) ∧ t.rng = s.rng.drop (len + b * (n * n))

/-- 43 (R182): KEYGEN's word and its entry checks, which draw nothing and leave ATTEMPT at 0. -/
def Obligations.KeygenEntryChecks : Prop :=
  ∀ (pf pt pi : PReg) (s : State),
    EncodesAs (.keygen pf pt pi) (0x40#8 ++ (fieldOfReg pf ++ (fieldOfReg pt ++ (fieldOfReg pi ++ 0#12))))
    ∧ (¬ DimOK s → ∃ t, exec (.keygen pf pt pi) s = .next t ∧ Latches .dimension s t ∧ t.valid = s.valid
      ∧ t.phase = s.phase ∧ t.attempt = 0#32 ∧ t.rng = s.rng)
    ∧ (DimOK s → ¬ KeygenFits s pf pt pi → ∃ t, exec (.keygen pf pt pi) s = .next t ∧ Latches .addressRange s t
      ∧ t.valid = s.valid ∧ t.phase = s.phase ∧ t.attempt = 0#32 ∧ t.rng = s.rng)

/-- 10_state section 6 (R47), 43 (R183): a KEYGEN that has met no invertible candidate and has draws left, and a SIGN that
has met no solvable system and has attempts left, stay in flight when the bytes run out, with the `ATTEMPT` and `PHASE`
they have reached (log 10); a byte the source offers joins the end of the stream (log 3). -/
def Obligations.ShortOfRngBytesStaysInFlight : Prop :=
  (∀ (pf pt pi : PReg) (s : State),
    let nn := s.dimN.toNat * s.dimN.toNat
    let len := s.dimM.toNat * pszOf s
    DimOK s → KeygenFits s pf pt pi → (∀ b, s.params.keygenBudget = some b → s.rng.length < len + b * nn) →
    (∀ a, len + (a + 1) * nn ≤ s.rng.length → minv s.dimN.toNat (candidateT s a) = none) →
    ∃ t, exec (.keygen pf pt pi) s = .next t ∧ StaysInFlight s t ∧ t.rng = s.rng ∧ t.phase = s.phase
      ∧ (s.rng.length < len → t.attempt = 0#32)
      ∧ ∀ a, len + a * nn ≤ s.rng.length → s.rng.length < len + (a + 1) * nn →
        t.attempt = BitVec.ofNat 32 (min (a + 1) (2 ^ 32 - 1)))
    ∧ (∀ (ps pf pi pt : PReg) (s : State),
      let v := s.dimV.toNat
      DimOK s → s.tgtLen = s.dimM → SignFits s ps pf pi pt → s.rng.length < 1000 * v →
      (∀ a, (a + 1) * v ≤ s.rng.length → minv s.dimM.toNat (attemptMat s pf a) = none) →
      ∃ t, exec (.sign ps pf pi pt) s = .next t ∧ StaysInFlight s t ∧ t.rng = s.rng ∧ t.phase = .drawVinegar
        ∧ t.attempt = BitVec.ofNat 32 (s.rng.length / v + 1))
    ∧ ∀ (s : State) (b : Byte) (rest : List Event), s.agenda = .rngByte b :: rest →
      step s = .next { s with rng := s.rng ++ [b], agenda := rest }

/-- 43 (R184, the spec's own inference): after a KEYGEN that completed with its T and T inverse regions apart, the two
matrices in OMEM are inverse to each other. -/
def Obligations.CompletedKeygenLeavesAnInversePair : Prop :=
  ∀ (pf pt pi : PReg) (s t : State),
    let n := s.dimN.toNat
    s.busy = true → s.err = false → exec (.keygen pf pt pi) s = .next t → t.busy = false → t.err = false →
    Apart (baseOf s pt) (n * n) (baseOf s pi) (n * n) →
    ∀ x : Vec, x.length = n →
      matvec n n (matOn t (baseOf t pi) n) (matvec n n (matOn t (baseOf t pt) n) x) = x
      ∧ matvec n n (matOn t (baseOf t pt) n) (matvec n n (matOn t (baseOf t pi) n) x) = x

/-! ### Signer and verifier -/

/-- 44 section 4 (R192): DRAWV draws v bytes into the vinegar vector, and draws nothing when it faults. That it stays in
flight while the RNG source has not answered is 10_state R47 as log 10 renders it. -/
def Obligations.DrawVinegarCommand : Prop :=
  ∀ (pd : PReg) (s : State),
    let v := s.dimV.toNat
    EncodesAs (.drawv pd) (0x50#8 ++ (fieldOfReg pd ++ 0#20))
    ∧ (¬ DimOK s → Faults (.drawv pd) .dimension s)
    ∧ (DimOK s → ¬ Fits s pd v → Faults (.drawv pd) .addressRange s)
    ∧ (DimOK s → Fits s pd v → s.rng.length < v → ∃ t, exec (.drawv pd) s = .next t ∧ StaysInFlight s t
      ∧ SameResults s t ∧ t.rng = s.rng)
    ∧ (DimOK s → Fits s pd v → v ≤ s.rng.length → ∃ t, exec (.drawv pd) s = .next t ∧ Completes s t ∧ SameG s t
      ∧ SameP s t ∧ SameShape s t ∧ SameResults s t ∧ t.rng = s.rng.drop v ∧ SameOmemOutside (baseOf s pd) v s t
      ∧ ∀ k, k < v → t.omemByte (baseOf s pd + k) = s.rng.getD k 0#8)

/-- R194: BUILDSYS writes A, then b (R70). -/
def Obligations.BuildSystemCommand : Prop :=
  ∀ (pa pb pf px pt : PReg) (s : State),
    let v := s.dimV.toNat
    let m := s.dimM.toNat
    let ranges := Fits s pf (m * pszOf s) ∧ Fits s px v ∧ Fits s pt m ∧ Fits s pa (m * m) ∧ Fits s pb m
    let xv := fun k => s.omemByte (baseOf s px + k)
    EncodesAs (.buildsys pa pb pf px pt)
      (0x51#8 ++ (fieldOfReg pa ++ (fieldOfReg pb ++ (fieldOfReg pf ++ (fieldOfReg px ++ (fieldOfReg pt ++ 0#4))))))
    ∧ (¬ DimOK s → Faults (.buildsys pa pb pf px pt) .dimension s)
    ∧ (DimOK s → s.tgtLen ≠ s.dimM → Faults (.buildsys pa pb pf px pt) .format s)
    ∧ (DimOK s → s.tgtLen = s.dimM → ¬ ranges → Faults (.buildsys pa pb pf px pt) .addressRange s)
    ∧ (DimOK s → s.tgtLen = s.dimM → ranges →
      ∃ t, exec (.buildsys pa pb pf px pt) s = .next t ∧ CompletesPlain s t ∧ SameG s t ∧ SameP s t
        ∧ ∀ x, t.omemByte x =
            if baseOf s pb ≤ x ∧ x < baseOf s pb + m then
              s.omemByte (baseOf s pt + (x - baseOf s pb)) ^^^ vinOn s (baseOf s pf + (x - baseOf s pb) * pszOf s) xv
            else if baseOf s pa ≤ x ∧ x < baseOf s pa + m * m then
              coefOn s (baseOf s pf + (x - baseOf s pa) / m * pszOf s) xv ((x - baseOf s pa) % m)
            else s.omemByte x)

/-- 44 (R196): with attempt number a (from 0, below 1000) the first whose system is solvable, SIGN writes the signature
and its results. -/
def Obligations.SignWritesTheSignature : Prop :=
  ∀ (ps pf pi pt : PReg) (s : State) (a : Nat) (ainv : Mat),
    let n := s.dimN.toNat
    let v := s.dimV.toNat
    let m := s.dimM.toNat
    let u := fun j => if j < v then vinegarOf s a j
      else xorUpTo m (fun k => fmul (matAt ainv (j - v) k) (attemptVec s pf pt a k))
    DimOK s → s.tgtLen = s.dimM → SignFits s ps pf pi pt → a < 1000 → (a + 1) * v ≤ s.rng.length →
    (∀ j, j < a → minv m (attemptMat s pf j) = none) → minv m (attemptMat s pf a) = some ainv →
    ∃ t, exec (.sign ps pf pi pt) s = .next t ∧ Completes s t ∧ SameG s t ∧ SameP s t ∧ SameDims s t
      ∧ t.tgtLen = s.tgtLen ∧ t.sigLen = s.dimN ∧ t.valid = s.valid ∧ t.phase = .success
      ∧ t.attempt = BitVec.ofNat 32 (a + 1) ∧ t.rng = s.rng.drop ((a + 1) * v)
      ∧ SameOmemOutside (baseOf s ps) n s t
      ∧ ∀ i, i < n → t.omemByte (baseOf s ps + i)
          = xorUpTo n (fun j => fmul (s.omemByte (baseOf s pi + i * n + j)) (u j))

/-- 44 (R191, R196): 1000 singular systems end SIGN with SigningExhaustedError, PHASE FAILURE, ATTEMPT 1000, and
nothing written. -/
def Obligations.SignExhaustsAfterThousandAttempts : Prop :=
  ∀ (ps pf pi pt : PReg) (s : State),
    DimOK s → s.tgtLen = s.dimM → SignFits s ps pf pi pt → 1000 * s.dimV.toNat ≤ s.rng.length →
    (∀ j, j < 1000 → minv s.dimM.toNat (attemptMat s pf j) = none) →
    ∃ t, exec (.sign ps pf pi pt) s = .next t ∧ Latches .signingExhausted s t ∧ t.valid = s.valid
      ∧ t.phase = .failure ∧ t.attempt = 1000#32 ∧ t.rng = s.rng.drop (1000 * s.dimV.toNat)

/-- 44 (R196), 60 section 3 (R266): SIGN's word and its entry checks in order, which draw nothing and leave ATTEMPT 0 and
PHASE IDLE. -/
def Obligations.SignEntryChecks : Prop :=
  ∀ (ps pf pi pt : PReg) (s : State),
    EncodesAs (.sign ps pf pi pt)
      (0x52#8 ++ (fieldOfReg ps ++ (fieldOfReg pf ++ (fieldOfReg pi ++ (fieldOfReg pt ++ 0#8)))))
    ∧ ∀ e, (¬ DimOK s ∧ e = .dimension) ∨ (DimOK s ∧ s.tgtLen ≠ s.dimM ∧ e = .format)
        ∨ (DimOK s ∧ s.tgtLen = s.dimM ∧ ¬ SignFits s ps pf pi pt ∧ e = .addressRange) →
      ∃ t, exec (.sign ps pf pi pt) s = .next t ∧ Latches e s t ∧ t.valid = s.valid ∧ t.phase = .idle
        ∧ t.attempt = 0#32 ∧ t.rng = s.rng

/-- R199: given 1000*v RNG bytes every SIGN ends, within 1000 attempts, in SUCCESS or in FAILURE after the 1000th. -/
def Obligations.SignTerminatesWithinItsBudget : Prop :=
  ∀ (ps pf pi pt : PReg) (s : State),
    DimOK s → s.tgtLen = s.dimM → SignFits s ps pf pi pt → 1000 * s.dimV.toNat ≤ s.rng.length →
    ∃ t, exec (.sign ps pf pi pt) s = .next t ∧ t.busy = false ∧ t.done = true
      ∧ 1 ≤ t.attempt.toNat ∧ t.attempt.toNat ≤ 1000 ∧ t.rng = s.rng.drop (t.attempt.toNat * s.dimV.toNat)
      ∧ ((t.phase = .success ∧ t.err = s.err) ∨
        (t.phase = .failure ∧ t.err = true ∧ t.errcode = 3#4 ∧ t.attempt = 1000#32))

/-- 44 sections 2 and 4 (R191, R197): the arrows of the signer's state machine, each taken when its condition holds, and
what each does to ATTEMPT; along one SIGN ATTEMPT never decreases; and a `progress` event (log 2) shows the host the PHASE
and ATTEMPT that the run of the SIGN, or of the KEYGEN, in flight has reached after that many arrows. -/
def Obligations.SignerStateMachineArrows : Prop :=
  (∀ (v m : Nat) (f : List Poly) (tgt : Vec),
    (∀ r q : SignRun, signNext v m f tgt r = some q →
      (r.phase = .drawVinegar ∧ q.phase = .buildSystem ∧ q.attempt = r.attempt ∧ q.rng = r.rng.drop v)
      ∨ (r.phase = .buildSystem ∧ q.phase = .solve ∧ q.attempt = r.attempt ∧ q.rng = r.rng)
      ∨ (r.phase = .solve ∧ q.phase = .success ∧ q.attempt = r.attempt ∧ (minv m r.a).isSome = true)
      ∨ (r.phase = .solve ∧ q.phase = .retry ∧ q.attempt = r.attempt ∧ minv m r.a = none ∧ r.attempt < 1000)
      ∨ (r.phase = .solve ∧ q.phase = .failure ∧ q.attempt = r.attempt ∧ minv m r.a = none ∧ 1000 ≤ r.attempt)
      ∨ (r.phase = .retry ∧ q.phase = .drawVinegar ∧ q.attempt = r.attempt + 1 ∧ q.rng = r.rng))
    ∧ (∀ r : SignRun,
      (r.phase = .drawVinegar → v ≤ r.rng.length →
        ∃ q, signNext v m f tgt r = some q ∧ q.phase = .buildSystem ∧ q.xv = r.rng.take v)
      ∧ (r.phase = .drawVinegar → r.rng.length < v → signNext v m f tgt r = none)
      ∧ (r.phase = .buildSystem → ∃ q, signNext v m f tgt r = some q ∧ q.phase = .solve
        ∧ q.a = sysMat v m f r.xv ∧ q.b = sysVec v f r.xv tgt)
      ∧ (∀ e, r.phase = .solve → minv m r.a = some e →
        ∃ q, signNext v m f tgt r = some q ∧ q.phase = .success ∧ q.ainv = e)
      ∧ (r.phase = .solve → minv m r.a = none → ∃ q, signNext v m f tgt r = some q
        ∧ q.phase = if r.attempt < 1000 then .retry else .failure)
      ∧ (r.phase = .retry → ∃ q, signNext v m f tgt r = some q ∧ q.phase = .drawVinegar ∧ q.attempt = r.attempt + 1)
      ∧ (r.phase = .success ∨ r.phase = .failure → signNext v m f tgt r = none))
    ∧ (∀ s : State, s.signStart.phase = .drawVinegar ∧ s.signStart.attempt = 1 ∧ s.signStart.rng = s.rng)
    ∧ (∀ (r : SignRun) (j k : Nat), j ≤ k → (signRun v m f tgt j r).attempt ≤ (signRun v m f tgt k r).attempt)
    ∧ ∀ (r : SignRun) (k : Nat), signRun v m f tgt 0 r = r
      ∧ signRun v m f tgt (k + 1) r = (signNext v m f tgt (signRun v m f tgt k r)).getD (signRun v m f tgt k r))
    ∧ (∀ (ps pf pi pt : PReg) (s : State) (rest : List Event),
      s.busy = true → decode s.cmd = some (.sign ps pf pi pt) → s.agenda = .progress :: rest →
      (DimOK s ∧ s.tgtLen = s.dimM ∧ SignFits s ps pf pi pt →
        let r := signRun s.dimV.toNat s.dimM.toNat (s.readMap pf) (s.readVec pt s.dimM.toNat) s.progress s.signStart
        step s = .next (if r.phase = .success then { s with agenda := rest } else
          { s with phase := r.phase, attempt := BitVec.ofNat 32 r.attempt, progress := r.steps + 1, agenda := rest }))
      ∧ (¬ (DimOK s ∧ s.tgtLen = s.dimM ∧ SignFits s ps pf pi pt) → step s = .next { s with agenda := rest }))
    ∧ ∀ (pf pt pi : PReg) (s : State) (rest : List Event),
      s.busy = true → decode s.cmd = some (.keygen pf pt pi) → s.agenda = .progress :: rest →
      (DimOK s ∧ KeygenFits s pf pt pi →
        let r := keyRun s.params.keygenBudget s.dimN.toNat (s.dimM.toNat * pszOf s) s.progress s.keyStart
        step s = .next (if r.stage = .found ∨ r.stage = .exhausted then { s with agenda := rest } else
          { s with attempt := BitVec.ofNat 32 (min r.draws (2 ^ 32 - 1)), progress := r.steps + 1, agenda := rest }))
      ∧ (¬ (DimOK s ∧ KeygenFits s pf pt pi) → step s = .next { s with agenda := rest })

/-- R220: VERIFY clears VALID, checks, and completes with VALID = 1 exactly when y = t; it writes nothing else. -/
def Obligations.VerifyCommand : Prop :=
  ∀ (pf pm pt ps : PReg) (s : State),
    let n := s.dimN.toNat
    let m := s.dimM.toNat
    let lengths := s.sigLen = s.dimN ∧ s.tgtLen = s.dimM
    let ranges := Fits s pf (m * pszOf s) ∧ Fits s pm (n * n) ∧ Fits s pt m ∧ Fits s ps n
    let u := fun i => xorUpTo n (fun j => fmul (s.omemByte (baseOf s pm + i * n + j)) (s.omemByte (baseOf s ps + j)))
    EncodesAs (.verify pf pm pt ps)
      (0x60#8 ++ (fieldOfReg pf ++ (fieldOfReg pm ++ (fieldOfReg pt ++ (fieldOfReg ps ++ 0#8)))))
    ∧ (∀ e, (¬ DimOK s ∧ e = .dimension) ∨ (DimOK s ∧ ¬ lengths ∧ e = .format)
        ∨ (DimOK s ∧ lengths ∧ ¬ ranges ∧ e = .addressRange) →
      ∃ t, exec (.verify pf pm pt ps) s = .next t ∧ Latches e s t ∧ t.valid = false ∧ t.phase = s.phase
        ∧ t.attempt = s.attempt ∧ t.rng = s.rng)
    ∧ (DimOK s → lengths → ranges → ∃ t, exec (.verify pf pm pt ps) s = .next t ∧ Completes s t ∧ SameG s t ∧ SameP s t
      ∧ SameOmem s t ∧ SameShape s t ∧ t.phase = s.phase ∧ t.attempt = s.attempt ∧ t.rng = s.rng
      ∧ (t.valid = true ↔ ∀ i, i < m →
        evalOn s (baseOf s pf + i * pszOf s) u = s.omemByte (baseOf s pt + i)))

/-- 44 section 5 (R200), 45 (R222), the spec's own inference: the signature of a completed SIGN verifies, if T inverse is the inverse of T and the
signature was not written over F, T or the target. It holds for every RNG stream. -/
def Obligations.SignatureOfACompletedSignVerifies : Prop :=
  ∀ (ps pf pi pt pm : PReg) (s t : State),
    let n := s.dimN.toNat
    let m := s.dimM.toNat
    s.busy = true → s.err = false → exec (.sign ps pf pi pt) s = .next t → t.busy = false → t.err = false →
    Fits s pm (n * n) →
    (∀ x : Vec, x.length = n → matvec n n (matOn s (baseOf s pm) n) (matvec n n (matOn s (baseOf s pi) n) x) = x) →
    Apart (baseOf s ps) n (baseOf s pf) (m * pszOf s) → Apart (baseOf s ps) n (baseOf s pm) (n * n) →
    Apart (baseOf s ps) n (baseOf s pt) m →
    ∃ u, exec (.verify pf pm pt ps) t = .next u ∧ u.valid = true ∧ u.err = false ∧ u.done = true

/-! ### The whole machine -/

/-- 10_state section 4 (R30): which commands write which CSR; no command touches `CTRL`, HAZ, `CMD` or the host's side. -/
def Obligations.CommandsWriteOnlyTheirOwnCsrs : Prop :=
  ∀ (i : Instr) (s t : State), exec i s = .next t →
    SameOuter s t
    ∧ ((∀ c x, i ≠ .csrw c x) → SameDims s t ∧ t.tgtLen = s.tgtLen)
    ∧ ((∀ c x, i ≠ .csrw c x) → (∀ a b c d, i ≠ .sign a b c d) → t.sigLen = s.sigLen)
    ∧ ((∀ a b c, i ≠ .keygen a b c) → (∀ a b c d, i ≠ .sign a b c d) → t.attempt = s.attempt)
    ∧ ((∀ a b c d, i ≠ .sign a b c d) → t.phase = s.phase)
    ∧ ((∀ a b c d, i ≠ .verify a b c d) → t.valid = s.valid)

/-- R270, R271: whatever command faults, the error is latched with the word in flight and nothing else changes but what
R270 lists. -/
def Obligations.FaultsArePrecise : Prop :=
  ∀ (i : Instr) (s t : State), exec i s = .next t → s.err = false → t.err = true →
    ∃ e, Latches e s t
      ∧ ((∀ a b c, i ≠ .keygen a b c) → (∀ a b c d, i ≠ .sign a b c d) →
        t.attempt = s.attempt ∧ t.phase = s.phase ∧ t.rng = s.rng)
      ∧ ((∀ a b c d, i ≠ .verify a b c d) → t.valid = s.valid)

/-- 70 section 4 (R314): every command, in every state, and every event but a platform bus access has an outcome that
is a next state. -/
def Obligations.EveryCommandAndEventAnswersANextState : Prop :=
  (∀ (i : Instr) (s : State), ∃ t, exec i s = .next t)
    ∧ ∀ s : State, (∀ a rest, s.agenda ≠ .bus a :: rest) → ∃ t, step s = .next t

/-- 70 section 5 (R322): only FGEN, KEYGEN, DRAWV and SIGN draw; what a command draws it takes from the front of the
stream. -/
def Obligations.OnlyFourCommandsDraw : Prop :=
  ∀ (i : Instr) (s t : State), exec i s = .next t →
    (∃ k, k ≤ s.rng.length ∧ t.rng = s.rng.drop k)
    ∧ ((∀ a, i ≠ .fgen a) → (∀ a b c, i ≠ .keygen a b c) → (∀ a, i ≠ .drawv a) → (∀ a b c d, i ≠ .sign a b c d) →
      t.rng = s.rng)

/-- The machine's invariant holds after the hardware reset, whatever the parameters. -/
def Obligations.InvariantHoldsAtReset : Prop := (∀ p, (State.resetWith p).Inv) ∧ State.reset.Inv

/-- Every step keeps the machine's invariant. -/
def Obligations.EveryStepKeepsTheInvariant : Prop := ∀ s t : State, s.Inv → step s = .next t → t.Inv

/-- 30 section 6 (R100): the expansions of the pseudo-instructions, the PLUI omitted where the upper half is 0, and what
they do, executed one command after another. -/
def Obligations.PseudoInstructionsExpandRight : Prop :=
  ∀ s : State,
    (∀ (pd : PReg) (imm : Word),
      (imm.extractLsb' 16 16 = 0#16 → expandPseudo (.pla pd imm) = [.pli pd (imm.extractLsb' 0 16)])
      ∧ (imm.extractLsb' 16 16 ≠ 0#16 →
        expandPseudo (.pla pd imm) = [.pli pd (imm.extractLsb' 0 16), .plui pd (imm.extractLsb' 16 16)]))
    ∧ (∀ gd ga, expandPseudo (.gclr gd) = [.gli gd 0x00#8] ∧ expandPseudo (.fneg gd ga) = [.gmv gd ga]
      ∧ expandPseudo (.fsqr gd ga) = [.fmul gd ga ga])
    ∧ (∀ n v m, expandPseudo (.setdim n v m) = [.csrw 0x06#8 n, .csrw 0x07#8 v, .csrw 0x08#8 m])
    ∧ (∀ r c, expandPseudo (.setla r c) = [.csrw 0x09#8 r, .csrw 0x0A#8 c])
    ∧ (∀ pd imm, ∃ t, execAll (expandPseudo (.pla pd imm)) s = some t ∧ WritesP pd imm s t ∧ SameG s t)
    ∧ (∀ gd, ∃ t, execAll (expandPseudo (.gclr gd)) s = some t ∧ WritesG gd 0x00#8 s t)
    ∧ (∀ gd ga, ∃ t, execAll (expandPseudo (.fneg gd ga)) s = some t ∧ WritesG gd (s.readG ga) s t)
    ∧ (∀ gd ga, ∃ t, execAll (expandPseudo (.fsqr gd ga)) s = some t
      ∧ WritesG gd (fmul (s.readG ga) (s.readG ga)) s t)
    ∧ (∀ n v m, ∃ t, execAll (expandPseudo (.setdim n v m)) s = some t
      ∧ t.dimN = n.setWidth 8 ∧ t.dimV = v.setWidth 8 ∧ t.dimM = m.setWidth 8)
    ∧ (∀ r c, ∃ t, execAll (expandPseudo (.setla r c)) s = some t ∧ t.laRows = r.setWidth 8 ∧ t.laCols = c.setWidth 8)

/-- 20_memory sections 2, 5, 6 (R62, R66, R67): what step does at a platform bus access, of any width, with any data.
CSR i is the aligned word at HOST_BASE + 4*i, every other access with a byte in the CSR window is refused; OMEM byte a is
at OMEM_WINDOW_BASE + a, and bits [8k+7:8k] of a bus word, read or written, are the byte at the k-th address. That an
access becomes HOST transactions and in which order, that alignment counts from HOST_BASE, that the CSR window wins an
overlap, that the bits of a narrow read
beyond its bytes are 0, and the stops are the model's choice (log 12). -/
def Obligations.PlatformBusMapsTheTwoSpaces : Prop :=
  ∀ (s : State) (a : BusAccess) (rest : List Event), s.agenda = .bus a :: rest →
    let n := a.width.bytes
    (∀ idx : BitVec 8, a.width = .word → a.addr = s.params.hostBase + 4 * idx.toNat →
      (a.data = none → step s = .next { s with agenda := .host (.csrRead idx) :: rest })
      ∧ ∀ w, a.data = some w → step s = .next { s with agenda := .host (.csrWrite idx w) :: rest })
    ∧ (¬ MissesCsrs s.params a.addr n → (∀ idx : BitVec 8, ¬ (a.width = .word ∧ a.addr = s.params.hostBase + 4 * idx.toNat)) →
      step s = .refused .busCsrNotWord)
    ∧ (MissesCsrs s.params a.addr n →
      ¬ (s.params.omemWindowBase ≤ a.addr ∧ a.addr + n ≤ s.params.omemWindowBase + s.params.omemSize) →
      step s = .fault .busUnmapped)
    ∧ ∀ x, MissesCsrs s.params a.addr n → a.addr = s.params.omemWindowBase + x → x + n ≤ s.params.omemSize →
      (a.data = none →
        step s = .next { s with
          agenda := (List.range n).map (fun k => .host (.memRead (x + k))) ++ .busAnswer a.width :: rest }
        ∧ (s.busy = false → ∃ t w, stepAll (n + 2) s = some t ∧ t.answers.head? = some (.bus w)
          ∧ (∀ k, k < n → w.extractLsb' (8 * k) 8 = s.omemByte (x + k)) ∧ w.toNat < 2 ^ (8 * n)
          ∧ { t with answers := s.answers } = { s with agenda := rest }))
      ∧ ∀ w, a.data = some w →
        step s = .next { s with
          agenda := (List.range n).map (fun k => .host (.memWrite (x + k) (w.extractLsb' (8 * k) 8))) ++ rest }
        ∧ (s.busy = false → ∃ t, stepAll (n + 1) s = some t ∧ SameOmemOutside x n s t
          ∧ (∀ k, k < n → t.omemByte (x + k) = w.extractLsb' (8 * k) 8)
          ∧ { t with omem := s.omem } = { s with agenda := rest })
end

