-- ==== Sys2Proof/Laws/Decode.lean ====
section
/-! SUPPORT. Splitting a command word into fields and joining it again (30_encoding R90), and what the immediates read
back as (R93). -/
namespace Sys2Proof

/-- The fields of a joined word are the fields. -/
theorem splitWord_joinWord (f : Fields) : splitWord (joinWord f) = f := by
  obtain ⟨op, f5, f4, f3, f2, f1, f0⟩ := f
  unfold splitWord
  rw [Fields.mk.injEq]
  refine ⟨?_, ?_, ?_, ?_, ?_, ?_, ?_⟩
  all_goals
    apply BitVec.eq_of_getLsbD_eq
    intro i hi
    simp only [joinWord, BitVec.getLsbD_extractLsb', BitVec.getLsbD_append]
    interval_cases i <;> simp

/-- A word is the join of its fields. -/
theorem joinWord_splitWord (w : Word) : joinWord (splitWord w) = w := by
  apply BitVec.eq_of_getLsbD_eq
  intro i hi
  simp only [joinWord, splitWord, BitVec.getLsbD_append, BitVec.getLsbD_extractLsb']
  interval_cases i <;> simp

@[simp] theorem regOfField_fieldOfReg (r : Fin 16) : regOfField (fieldOfReg r) = r := rfl

@[simp] theorem fieldOfReg_regOfField (x : BitVec 4) : fieldOfReg (regOfField x) = x := rfl

/-- The two nibbles of an 8-bit value. -/
theorem join8 (x : BitVec 8) : x.extractLsb' 4 4 ++ x.extractLsb' 0 4 = x := by
  apply BitVec.eq_of_getLsbD_eq
  intro i hi
  simp only [BitVec.getLsbD_append, BitVec.getLsbD_extractLsb']
  interval_cases i <;> simp

/-- The three nibbles of a 12-bit value. -/
theorem join12 (x : BitVec 12) : x.extractLsb' 8 4 ++ (x.extractLsb' 4 4 ++ x.extractLsb' 0 4) = x := by
  apply BitVec.eq_of_getLsbD_eq
  intro i hi
  simp only [BitVec.getLsbD_append, BitVec.getLsbD_extractLsb']
  interval_cases i <;> simp

/-- The four nibbles of a 16-bit value. -/
theorem join16 (x : BitVec 16) :
    x.extractLsb' 12 4 ++ (x.extractLsb' 8 4 ++ (x.extractLsb' 4 4 ++ x.extractLsb' 0 4)) = x := by
  apply BitVec.eq_of_getLsbD_eq
  intro i hi
  simp only [BitVec.getLsbD_append, BitVec.getLsbD_extractLsb']
  interval_cases i <;> simp

/-- Decoding an encoded command decodes its fields. -/
theorem decode_encode_fields (i : Instr) : decode (encode i) = decodeFields (encodeFields i) := by
  unfold decode encode; rw [splitWord_joinWord]

/-- A word whose must-be-zero fields are zero decodes. -/
theorem ifZero_eq (zs : List (BitVec 4)) (i : Instr) :
    ifZero zs i = if ∀ x ∈ zs, x = 0#4 then some i else none := by
  unfold ifZero
  by_cases h : ∀ x ∈ zs, x = 0#4
  · rw [if_pos h, if_pos (by simpa using h)]
  · rw [if_neg h, if_neg (by simpa using h)]

end Sys2Proof
end

