-- ==== Sys2Proof/Laws/State.lean ====
section
/-! SUPPORT. The small lemmas of State: what every named update does to every field, each true by rfl, so that no later
proof unfolds a record update. -/
namespace Sys2Proof.Machine

section writeG
variable (s : State) (r : GReg) (x : Byte)
@[simp] theorem writeG_params : (State.writeG s r x).params = s.params := rfl
@[simp] theorem writeG_g : (State.writeG s r x).g = s.g.set r x := rfl
@[simp] theorem writeG_p : (State.writeG s r x).p = s.p := rfl
@[simp] theorem writeG_ieDone : (State.writeG s r x).ieDone = s.ieDone := rfl
@[simp] theorem writeG_ieErr : (State.writeG s r x).ieErr = s.ieErr := rfl
@[simp] theorem writeG_busy : (State.writeG s r x).busy = s.busy := rfl
@[simp] theorem writeG_done : (State.writeG s r x).done = s.done := rfl
@[simp] theorem writeG_err : (State.writeG s r x).err = s.err := rfl
@[simp] theorem writeG_valid : (State.writeG s r x).valid = s.valid := rfl
@[simp] theorem writeG_haz : (State.writeG s r x).haz = s.haz := rfl
@[simp] theorem writeG_phase : (State.writeG s r x).phase = s.phase := rfl
@[simp] theorem writeG_errcode : (State.writeG s r x).errcode = s.errcode := rfl
@[simp] theorem writeG_errinfo : (State.writeG s r x).errinfo = s.errinfo := rfl
@[simp] theorem writeG_cmd : (State.writeG s r x).cmd = s.cmd := rfl
@[simp] theorem writeG_dimN : (State.writeG s r x).dimN = s.dimN := rfl
@[simp] theorem writeG_dimV : (State.writeG s r x).dimV = s.dimV := rfl
@[simp] theorem writeG_dimM : (State.writeG s r x).dimM = s.dimM := rfl
@[simp] theorem writeG_laRows : (State.writeG s r x).laRows = s.laRows := rfl
@[simp] theorem writeG_laCols : (State.writeG s r x).laCols = s.laCols := rfl
@[simp] theorem writeG_sigLen : (State.writeG s r x).sigLen = s.sigLen := rfl
@[simp] theorem writeG_tgtLen : (State.writeG s r x).tgtLen = s.tgtLen := rfl
@[simp] theorem writeG_attempt : (State.writeG s r x).attempt = s.attempt := rfl
@[simp] theorem writeG_omem : (State.writeG s r x).omem = s.omem := rfl
@[simp] theorem writeG_progress : (State.writeG s r x).progress = s.progress := rfl
@[simp] theorem writeG_rng : (State.writeG s r x).rng = s.rng := rfl
@[simp] theorem writeG_omemEpoch : (State.writeG s r x).omemEpoch = s.omemEpoch := rfl
@[simp] theorem writeG_freeCount : (State.writeG s r x).freeCount = s.freeCount := rfl
@[simp] theorem writeG_answers : (State.writeG s r x).answers = s.answers := rfl
@[simp] theorem writeG_agenda : (State.writeG s r x).agenda = s.agenda := rfl
end writeG

section writeP
variable (s : State) (r : PReg) (x : Word)
@[simp] theorem writeP_params : (State.writeP s r x).params = s.params := rfl
@[simp] theorem writeP_g : (State.writeP s r x).g = s.g := rfl
@[simp] theorem writeP_p : (State.writeP s r x).p = s.p.set r x := rfl
@[simp] theorem writeP_ieDone : (State.writeP s r x).ieDone = s.ieDone := rfl
@[simp] theorem writeP_ieErr : (State.writeP s r x).ieErr = s.ieErr := rfl
@[simp] theorem writeP_busy : (State.writeP s r x).busy = s.busy := rfl
@[simp] theorem writeP_done : (State.writeP s r x).done = s.done := rfl
@[simp] theorem writeP_err : (State.writeP s r x).err = s.err := rfl
@[simp] theorem writeP_valid : (State.writeP s r x).valid = s.valid := rfl
@[simp] theorem writeP_haz : (State.writeP s r x).haz = s.haz := rfl
@[simp] theorem writeP_phase : (State.writeP s r x).phase = s.phase := rfl
@[simp] theorem writeP_errcode : (State.writeP s r x).errcode = s.errcode := rfl
@[simp] theorem writeP_errinfo : (State.writeP s r x).errinfo = s.errinfo := rfl
@[simp] theorem writeP_cmd : (State.writeP s r x).cmd = s.cmd := rfl
@[simp] theorem writeP_dimN : (State.writeP s r x).dimN = s.dimN := rfl
@[simp] theorem writeP_dimV : (State.writeP s r x).dimV = s.dimV := rfl
@[simp] theorem writeP_dimM : (State.writeP s r x).dimM = s.dimM := rfl
@[simp] theorem writeP_laRows : (State.writeP s r x).laRows = s.laRows := rfl
@[simp] theorem writeP_laCols : (State.writeP s r x).laCols = s.laCols := rfl
@[simp] theorem writeP_sigLen : (State.writeP s r x).sigLen = s.sigLen := rfl
@[simp] theorem writeP_tgtLen : (State.writeP s r x).tgtLen = s.tgtLen := rfl
@[simp] theorem writeP_attempt : (State.writeP s r x).attempt = s.attempt := rfl
@[simp] theorem writeP_omem : (State.writeP s r x).omem = s.omem := rfl
@[simp] theorem writeP_progress : (State.writeP s r x).progress = s.progress := rfl
@[simp] theorem writeP_rng : (State.writeP s r x).rng = s.rng := rfl
@[simp] theorem writeP_omemEpoch : (State.writeP s r x).omemEpoch = s.omemEpoch := rfl
@[simp] theorem writeP_freeCount : (State.writeP s r x).freeCount = s.freeCount := rfl
@[simp] theorem writeP_answers : (State.writeP s r x).answers = s.answers := rfl
@[simp] theorem writeP_agenda : (State.writeP s r x).agenda = s.agenda := rfl
end writeP

section writeBytes
variable (s : State) (a : Nat) (bs : List Byte)
@[simp] theorem writeBytes_params : (State.writeBytes s a bs).params = s.params := rfl
@[simp] theorem writeBytes_g : (State.writeBytes s a bs).g = s.g := rfl
@[simp] theorem writeBytes_p : (State.writeBytes s a bs).p = s.p := rfl
@[simp] theorem writeBytes_ieDone : (State.writeBytes s a bs).ieDone = s.ieDone := rfl
@[simp] theorem writeBytes_ieErr : (State.writeBytes s a bs).ieErr = s.ieErr := rfl
@[simp] theorem writeBytes_busy : (State.writeBytes s a bs).busy = s.busy := rfl
@[simp] theorem writeBytes_done : (State.writeBytes s a bs).done = s.done := rfl
@[simp] theorem writeBytes_err : (State.writeBytes s a bs).err = s.err := rfl
@[simp] theorem writeBytes_valid : (State.writeBytes s a bs).valid = s.valid := rfl
@[simp] theorem writeBytes_haz : (State.writeBytes s a bs).haz = s.haz := rfl
@[simp] theorem writeBytes_phase : (State.writeBytes s a bs).phase = s.phase := rfl
@[simp] theorem writeBytes_errcode : (State.writeBytes s a bs).errcode = s.errcode := rfl
@[simp] theorem writeBytes_errinfo : (State.writeBytes s a bs).errinfo = s.errinfo := rfl
@[simp] theorem writeBytes_cmd : (State.writeBytes s a bs).cmd = s.cmd := rfl
@[simp] theorem writeBytes_dimN : (State.writeBytes s a bs).dimN = s.dimN := rfl
@[simp] theorem writeBytes_dimV : (State.writeBytes s a bs).dimV = s.dimV := rfl
@[simp] theorem writeBytes_dimM : (State.writeBytes s a bs).dimM = s.dimM := rfl
@[simp] theorem writeBytes_laRows : (State.writeBytes s a bs).laRows = s.laRows := rfl
@[simp] theorem writeBytes_laCols : (State.writeBytes s a bs).laCols = s.laCols := rfl
@[simp] theorem writeBytes_sigLen : (State.writeBytes s a bs).sigLen = s.sigLen := rfl
@[simp] theorem writeBytes_tgtLen : (State.writeBytes s a bs).tgtLen = s.tgtLen := rfl
@[simp] theorem writeBytes_attempt : (State.writeBytes s a bs).attempt = s.attempt := rfl
@[simp] theorem writeBytes_omem : (State.writeBytes s a bs).omem = Memory.storeAll s.omem a bs := rfl
@[simp] theorem writeBytes_progress : (State.writeBytes s a bs).progress = s.progress := rfl
@[simp] theorem writeBytes_rng : (State.writeBytes s a bs).rng = s.rng := rfl
@[simp] theorem writeBytes_omemEpoch : (State.writeBytes s a bs).omemEpoch = s.omemEpoch := rfl
@[simp] theorem writeBytes_freeCount : (State.writeBytes s a bs).freeCount = s.freeCount := rfl
@[simp] theorem writeBytes_answers : (State.writeBytes s a bs).answers = s.answers := rfl
@[simp] theorem writeBytes_agenda : (State.writeBytes s a bs).agenda = s.agenda := rfl
end writeBytes

section setHaz
variable (s : State)
@[simp] theorem setHaz_params : (State.setHaz s).params = s.params := rfl
@[simp] theorem setHaz_g : (State.setHaz s).g = s.g := rfl
@[simp] theorem setHaz_p : (State.setHaz s).p = s.p := rfl
@[simp] theorem setHaz_ieDone : (State.setHaz s).ieDone = s.ieDone := rfl
@[simp] theorem setHaz_ieErr : (State.setHaz s).ieErr = s.ieErr := rfl
@[simp] theorem setHaz_busy : (State.setHaz s).busy = s.busy := rfl
@[simp] theorem setHaz_done : (State.setHaz s).done = s.done := rfl
@[simp] theorem setHaz_err : (State.setHaz s).err = s.err := rfl
@[simp] theorem setHaz_valid : (State.setHaz s).valid = s.valid := rfl
@[simp] theorem setHaz_haz : (State.setHaz s).haz = true := rfl
@[simp] theorem setHaz_phase : (State.setHaz s).phase = s.phase := rfl
@[simp] theorem setHaz_errcode : (State.setHaz s).errcode = s.errcode := rfl
@[simp] theorem setHaz_errinfo : (State.setHaz s).errinfo = s.errinfo := rfl
@[simp] theorem setHaz_cmd : (State.setHaz s).cmd = s.cmd := rfl
@[simp] theorem setHaz_dimN : (State.setHaz s).dimN = s.dimN := rfl
@[simp] theorem setHaz_dimV : (State.setHaz s).dimV = s.dimV := rfl
@[simp] theorem setHaz_dimM : (State.setHaz s).dimM = s.dimM := rfl
@[simp] theorem setHaz_laRows : (State.setHaz s).laRows = s.laRows := rfl
@[simp] theorem setHaz_laCols : (State.setHaz s).laCols = s.laCols := rfl
@[simp] theorem setHaz_sigLen : (State.setHaz s).sigLen = s.sigLen := rfl
@[simp] theorem setHaz_tgtLen : (State.setHaz s).tgtLen = s.tgtLen := rfl
@[simp] theorem setHaz_attempt : (State.setHaz s).attempt = s.attempt := rfl
@[simp] theorem setHaz_omem : (State.setHaz s).omem = s.omem := rfl
@[simp] theorem setHaz_progress : (State.setHaz s).progress = s.progress := rfl
@[simp] theorem setHaz_rng : (State.setHaz s).rng = s.rng := rfl
@[simp] theorem setHaz_omemEpoch : (State.setHaz s).omemEpoch = s.omemEpoch := rfl
@[simp] theorem setHaz_freeCount : (State.setHaz s).freeCount = s.freeCount := rfl
@[simp] theorem setHaz_answers : (State.setHaz s).answers = s.answers := rfl
@[simp] theorem setHaz_agenda : (State.setHaz s).agenda = s.agenda := rfl
end setHaz

section completeCommand
variable (s : State)
@[simp] theorem completeCommand_params : (completeCommand s).params = s.params := rfl
@[simp] theorem completeCommand_g : (completeCommand s).g = s.g := rfl
@[simp] theorem completeCommand_p : (completeCommand s).p = s.p := rfl
@[simp] theorem completeCommand_ieDone : (completeCommand s).ieDone = s.ieDone := rfl
@[simp] theorem completeCommand_ieErr : (completeCommand s).ieErr = s.ieErr := rfl
@[simp] theorem completeCommand_busy : (completeCommand s).busy = false := rfl
@[simp] theorem completeCommand_done : (completeCommand s).done = true := rfl
@[simp] theorem completeCommand_err : (completeCommand s).err = s.err := rfl
@[simp] theorem completeCommand_valid : (completeCommand s).valid = s.valid := rfl
@[simp] theorem completeCommand_haz : (completeCommand s).haz = s.haz := rfl
@[simp] theorem completeCommand_phase : (completeCommand s).phase = s.phase := rfl
@[simp] theorem completeCommand_errcode : (completeCommand s).errcode = s.errcode := rfl
@[simp] theorem completeCommand_errinfo : (completeCommand s).errinfo = s.errinfo := rfl
@[simp] theorem completeCommand_cmd : (completeCommand s).cmd = s.cmd := rfl
@[simp] theorem completeCommand_dimN : (completeCommand s).dimN = s.dimN := rfl
@[simp] theorem completeCommand_dimV : (completeCommand s).dimV = s.dimV := rfl
@[simp] theorem completeCommand_dimM : (completeCommand s).dimM = s.dimM := rfl
@[simp] theorem completeCommand_laRows : (completeCommand s).laRows = s.laRows := rfl
@[simp] theorem completeCommand_laCols : (completeCommand s).laCols = s.laCols := rfl
@[simp] theorem completeCommand_sigLen : (completeCommand s).sigLen = s.sigLen := rfl
@[simp] theorem completeCommand_tgtLen : (completeCommand s).tgtLen = s.tgtLen := rfl
@[simp] theorem completeCommand_attempt : (completeCommand s).attempt = s.attempt := rfl
@[simp] theorem completeCommand_omem : (completeCommand s).omem = s.omem := rfl
@[simp] theorem completeCommand_progress : (completeCommand s).progress = 0 := rfl
@[simp] theorem completeCommand_rng : (completeCommand s).rng = s.rng := rfl
@[simp] theorem completeCommand_omemEpoch : (completeCommand s).omemEpoch = s.omemEpoch := rfl
@[simp] theorem completeCommand_freeCount : (completeCommand s).freeCount = s.freeCount := rfl
@[simp] theorem completeCommand_answers : (completeCommand s).answers = s.answers := rfl
@[simp] theorem completeCommand_agenda : (completeCommand s).agenda = s.agenda := rfl
end completeCommand

section raiseError
variable (e : ErrorKind) (s : State)
@[simp] theorem raiseError_params : (raiseError e s).params = s.params := rfl
@[simp] theorem raiseError_g : (raiseError e s).g = s.g := rfl
@[simp] theorem raiseError_p : (raiseError e s).p = s.p := rfl
@[simp] theorem raiseError_ieDone : (raiseError e s).ieDone = s.ieDone := rfl
@[simp] theorem raiseError_ieErr : (raiseError e s).ieErr = s.ieErr := rfl
@[simp] theorem raiseError_busy : (raiseError e s).busy = false := rfl
@[simp] theorem raiseError_done : (raiseError e s).done = true := rfl
@[simp] theorem raiseError_err : (raiseError e s).err = true := rfl
@[simp] theorem raiseError_valid : (raiseError e s).valid = s.valid := rfl
@[simp] theorem raiseError_haz : (raiseError e s).haz = s.haz := rfl
@[simp] theorem raiseError_phase : (raiseError e s).phase = s.phase := rfl
@[simp] theorem raiseError_errcode : (raiseError e s).errcode = e.code := rfl
@[simp] theorem raiseError_errinfo : (raiseError e s).errinfo = s.cmd := rfl
@[simp] theorem raiseError_cmd : (raiseError e s).cmd = s.cmd := rfl
@[simp] theorem raiseError_dimN : (raiseError e s).dimN = s.dimN := rfl
@[simp] theorem raiseError_dimV : (raiseError e s).dimV = s.dimV := rfl
@[simp] theorem raiseError_dimM : (raiseError e s).dimM = s.dimM := rfl
@[simp] theorem raiseError_laRows : (raiseError e s).laRows = s.laRows := rfl
@[simp] theorem raiseError_laCols : (raiseError e s).laCols = s.laCols := rfl
@[simp] theorem raiseError_sigLen : (raiseError e s).sigLen = s.sigLen := rfl
@[simp] theorem raiseError_tgtLen : (raiseError e s).tgtLen = s.tgtLen := rfl
@[simp] theorem raiseError_attempt : (raiseError e s).attempt = s.attempt := rfl
@[simp] theorem raiseError_omem : (raiseError e s).omem = s.omem := rfl
@[simp] theorem raiseError_progress : (raiseError e s).progress = 0 := rfl
@[simp] theorem raiseError_rng : (raiseError e s).rng = s.rng := rfl
@[simp] theorem raiseError_omemEpoch : (raiseError e s).omemEpoch = s.omemEpoch := rfl
@[simp] theorem raiseError_freeCount : (raiseError e s).freeCount = s.freeCount := rfl
@[simp] theorem raiseError_answers : (raiseError e s).answers = s.answers := rfl
@[simp] theorem raiseError_agenda : (raiseError e s).agenda = s.agenda := rfl
end raiseError

section acceptCommand
variable (w : Word) (s : State)
@[simp] theorem acceptCommand_params : (acceptCommand w s).params = s.params := rfl
@[simp] theorem acceptCommand_g : (acceptCommand w s).g = s.g := rfl
@[simp] theorem acceptCommand_p : (acceptCommand w s).p = s.p := rfl
@[simp] theorem acceptCommand_ieDone : (acceptCommand w s).ieDone = s.ieDone := rfl
@[simp] theorem acceptCommand_ieErr : (acceptCommand w s).ieErr = s.ieErr := rfl
@[simp] theorem acceptCommand_busy : (acceptCommand w s).busy = true := rfl
@[simp] theorem acceptCommand_done : (acceptCommand w s).done = false := rfl
@[simp] theorem acceptCommand_err : (acceptCommand w s).err = s.err := rfl
@[simp] theorem acceptCommand_valid : (acceptCommand w s).valid = if isVerifyWord w then false else s.valid := rfl
@[simp] theorem acceptCommand_haz : (acceptCommand w s).haz = s.haz := rfl
@[simp] theorem acceptCommand_phase : (acceptCommand w s).phase = .idle := rfl
@[simp] theorem acceptCommand_errcode : (acceptCommand w s).errcode = s.errcode := rfl
@[simp] theorem acceptCommand_errinfo : (acceptCommand w s).errinfo = s.errinfo := rfl
@[simp] theorem acceptCommand_cmd : (acceptCommand w s).cmd = w := rfl
@[simp] theorem acceptCommand_dimN : (acceptCommand w s).dimN = s.dimN := rfl
@[simp] theorem acceptCommand_dimV : (acceptCommand w s).dimV = s.dimV := rfl
@[simp] theorem acceptCommand_dimM : (acceptCommand w s).dimM = s.dimM := rfl
@[simp] theorem acceptCommand_laRows : (acceptCommand w s).laRows = s.laRows := rfl
@[simp] theorem acceptCommand_laCols : (acceptCommand w s).laCols = s.laCols := rfl
@[simp] theorem acceptCommand_sigLen : (acceptCommand w s).sigLen = s.sigLen := rfl
@[simp] theorem acceptCommand_tgtLen : (acceptCommand w s).tgtLen = s.tgtLen := rfl
@[simp] theorem acceptCommand_attempt : (acceptCommand w s).attempt = if isAttemptWord w then 0#32 else s.attempt := rfl
@[simp] theorem acceptCommand_omem : (acceptCommand w s).omem = s.omem := rfl
@[simp] theorem acceptCommand_progress : (acceptCommand w s).progress = 0 := rfl
@[simp] theorem acceptCommand_rng : (acceptCommand w s).rng = s.rng := rfl
@[simp] theorem acceptCommand_omemEpoch : (acceptCommand w s).omemEpoch = s.omemEpoch := rfl
@[simp] theorem acceptCommand_freeCount : (acceptCommand w s).freeCount = s.freeCount := rfl
@[simp] theorem acceptCommand_answers : (acceptCommand w s).answers = s.answers := rfl
@[simp] theorem acceptCommand_agenda : (acceptCommand w s).agenda = s.agenda := rfl
end acceptCommand

section writeEnables
variable (w : Word) (s : State)
@[simp] theorem writeEnables_params : (writeEnables w s).params = s.params := rfl
@[simp] theorem writeEnables_g : (writeEnables w s).g = s.g := rfl
@[simp] theorem writeEnables_p : (writeEnables w s).p = s.p := rfl
@[simp] theorem writeEnables_ieDone : (writeEnables w s).ieDone = w.getLsbD 0 := rfl
@[simp] theorem writeEnables_ieErr : (writeEnables w s).ieErr = w.getLsbD 1 := rfl
@[simp] theorem writeEnables_busy : (writeEnables w s).busy = s.busy := rfl
@[simp] theorem writeEnables_done : (writeEnables w s).done = s.done := rfl
@[simp] theorem writeEnables_err : (writeEnables w s).err = s.err := rfl
@[simp] theorem writeEnables_valid : (writeEnables w s).valid = s.valid := rfl
@[simp] theorem writeEnables_haz : (writeEnables w s).haz = s.haz := rfl
@[simp] theorem writeEnables_phase : (writeEnables w s).phase = s.phase := rfl
@[simp] theorem writeEnables_errcode : (writeEnables w s).errcode = s.errcode := rfl
@[simp] theorem writeEnables_errinfo : (writeEnables w s).errinfo = s.errinfo := rfl
@[simp] theorem writeEnables_cmd : (writeEnables w s).cmd = s.cmd := rfl
@[simp] theorem writeEnables_dimN : (writeEnables w s).dimN = s.dimN := rfl
@[simp] theorem writeEnables_dimV : (writeEnables w s).dimV = s.dimV := rfl
@[simp] theorem writeEnables_dimM : (writeEnables w s).dimM = s.dimM := rfl
@[simp] theorem writeEnables_laRows : (writeEnables w s).laRows = s.laRows := rfl
@[simp] theorem writeEnables_laCols : (writeEnables w s).laCols = s.laCols := rfl
@[simp] theorem writeEnables_sigLen : (writeEnables w s).sigLen = s.sigLen := rfl
@[simp] theorem writeEnables_tgtLen : (writeEnables w s).tgtLen = s.tgtLen := rfl
@[simp] theorem writeEnables_attempt : (writeEnables w s).attempt = s.attempt := rfl
@[simp] theorem writeEnables_omem : (writeEnables w s).omem = s.omem := rfl
@[simp] theorem writeEnables_progress : (writeEnables w s).progress = s.progress := rfl
@[simp] theorem writeEnables_rng : (writeEnables w s).rng = s.rng := rfl
@[simp] theorem writeEnables_omemEpoch : (writeEnables w s).omemEpoch = s.omemEpoch := rfl
@[simp] theorem writeEnables_freeCount : (writeEnables w s).freeCount = s.freeCount := rfl
@[simp] theorem writeEnables_answers : (writeEnables w s).answers = s.answers := rfl
@[simp] theorem writeEnables_agenda : (writeEnables w s).agenda = s.agenda := rfl
end writeEnables

section writeStatus
variable (w : Word) (s : State)
@[simp] theorem writeStatus_params : (writeStatus w s).params = s.params := rfl
@[simp] theorem writeStatus_g : (writeStatus w s).g = s.g := rfl
@[simp] theorem writeStatus_p : (writeStatus w s).p = s.p := rfl
@[simp] theorem writeStatus_ieDone : (writeStatus w s).ieDone = s.ieDone := rfl
@[simp] theorem writeStatus_ieErr : (writeStatus w s).ieErr = s.ieErr := rfl
@[simp] theorem writeStatus_busy : (writeStatus w s).busy = s.busy := rfl
@[simp] theorem writeStatus_done : (writeStatus w s).done = (s.done && !w.getLsbD 1) := rfl
@[simp] theorem writeStatus_err : (writeStatus w s).err = (s.err && !w.getLsbD 2) := rfl
@[simp] theorem writeStatus_valid : (writeStatus w s).valid = s.valid := rfl
@[simp] theorem writeStatus_haz : (writeStatus w s).haz = (s.haz && !w.getLsbD 4) := rfl
@[simp] theorem writeStatus_phase : (writeStatus w s).phase = s.phase := rfl
@[simp] theorem writeStatus_errcode : (writeStatus w s).errcode = if s.err && w.getLsbD 2 then 0#4 else s.errcode := rfl
@[simp] theorem writeStatus_errinfo : (writeStatus w s).errinfo = if s.err && w.getLsbD 2 then 0#32 else s.errinfo := rfl
@[simp] theorem writeStatus_cmd : (writeStatus w s).cmd = s.cmd := rfl
@[simp] theorem writeStatus_dimN : (writeStatus w s).dimN = s.dimN := rfl
@[simp] theorem writeStatus_dimV : (writeStatus w s).dimV = s.dimV := rfl
@[simp] theorem writeStatus_dimM : (writeStatus w s).dimM = s.dimM := rfl
@[simp] theorem writeStatus_laRows : (writeStatus w s).laRows = s.laRows := rfl
@[simp] theorem writeStatus_laCols : (writeStatus w s).laCols = s.laCols := rfl
@[simp] theorem writeStatus_sigLen : (writeStatus w s).sigLen = s.sigLen := rfl
@[simp] theorem writeStatus_tgtLen : (writeStatus w s).tgtLen = s.tgtLen := rfl
@[simp] theorem writeStatus_attempt : (writeStatus w s).attempt = s.attempt := rfl
@[simp] theorem writeStatus_omem : (writeStatus w s).omem = s.omem := rfl
@[simp] theorem writeStatus_progress : (writeStatus w s).progress = s.progress := rfl
@[simp] theorem writeStatus_rng : (writeStatus w s).rng = s.rng := rfl
@[simp] theorem writeStatus_omemEpoch : (writeStatus w s).omemEpoch = s.omemEpoch := rfl
@[simp] theorem writeStatus_freeCount : (writeStatus w s).freeCount = s.freeCount := rfl
@[simp] theorem writeStatus_answers : (writeStatus w s).answers = s.answers := rfl
@[simp] theorem writeStatus_agenda : (writeStatus w s).agenda = s.agenda := rfl
end writeStatus

section dropDrawn
variable (s : State)
@[simp] theorem dropDrawn_params : (State.dropDrawn s).params = s.params := rfl
@[simp] theorem dropDrawn_g : (State.dropDrawn s).g = s.g := rfl
@[simp] theorem dropDrawn_p : (State.dropDrawn s).p = s.p := rfl
@[simp] theorem dropDrawn_ieDone : (State.dropDrawn s).ieDone = s.ieDone := rfl
@[simp] theorem dropDrawn_ieErr : (State.dropDrawn s).ieErr = s.ieErr := rfl
@[simp] theorem dropDrawn_busy : (State.dropDrawn s).busy = s.busy := rfl
@[simp] theorem dropDrawn_done : (State.dropDrawn s).done = s.done := rfl
@[simp] theorem dropDrawn_err : (State.dropDrawn s).err = s.err := rfl
@[simp] theorem dropDrawn_valid : (State.dropDrawn s).valid = s.valid := rfl
@[simp] theorem dropDrawn_haz : (State.dropDrawn s).haz = s.haz := rfl
@[simp] theorem dropDrawn_phase : (State.dropDrawn s).phase = s.phase := rfl
@[simp] theorem dropDrawn_errcode : (State.dropDrawn s).errcode = s.errcode := rfl
@[simp] theorem dropDrawn_errinfo : (State.dropDrawn s).errinfo = s.errinfo := rfl
@[simp] theorem dropDrawn_cmd : (State.dropDrawn s).cmd = s.cmd := rfl
@[simp] theorem dropDrawn_dimN : (State.dropDrawn s).dimN = s.dimN := rfl
@[simp] theorem dropDrawn_dimV : (State.dropDrawn s).dimV = s.dimV := rfl
@[simp] theorem dropDrawn_dimM : (State.dropDrawn s).dimM = s.dimM := rfl
@[simp] theorem dropDrawn_laRows : (State.dropDrawn s).laRows = s.laRows := rfl
@[simp] theorem dropDrawn_laCols : (State.dropDrawn s).laCols = s.laCols := rfl
@[simp] theorem dropDrawn_sigLen : (State.dropDrawn s).sigLen = s.sigLen := rfl
@[simp] theorem dropDrawn_tgtLen : (State.dropDrawn s).tgtLen = s.tgtLen := rfl
@[simp] theorem dropDrawn_attempt : (State.dropDrawn s).attempt = s.attempt := rfl
@[simp] theorem dropDrawn_omem : (State.dropDrawn s).omem = s.omem := rfl
@[simp] theorem dropDrawn_progress : (State.dropDrawn s).progress = s.progress := rfl
@[simp] theorem dropDrawn_rng : (State.dropDrawn s).rng = s.rng.drop (min (Config.abandonedDraws s.freeCount) s.drawBound) := rfl
@[simp] theorem dropDrawn_omemEpoch : (State.dropDrawn s).omemEpoch = s.omemEpoch := rfl
@[simp] theorem dropDrawn_freeCount : (State.dropDrawn s).freeCount = s.freeCount + 1 := rfl
@[simp] theorem dropDrawn_answers : (State.dropDrawn s).answers = s.answers := rfl
@[simp] theorem dropDrawn_agenda : (State.dropDrawn s).agenda = s.agenda := rfl
end dropDrawn

section clobber
variable (s : State) (q : Nat × Nat)
@[simp] theorem clobber_params : (State.clobber s q).params = s.params := rfl
@[simp] theorem clobber_g : (State.clobber s q).g = s.g := rfl
@[simp] theorem clobber_p : (State.clobber s q).p = s.p := rfl
@[simp] theorem clobber_ieDone : (State.clobber s q).ieDone = s.ieDone := rfl
@[simp] theorem clobber_ieErr : (State.clobber s q).ieErr = s.ieErr := rfl
@[simp] theorem clobber_busy : (State.clobber s q).busy = s.busy := rfl
@[simp] theorem clobber_done : (State.clobber s q).done = s.done := rfl
@[simp] theorem clobber_err : (State.clobber s q).err = s.err := rfl
@[simp] theorem clobber_valid : (State.clobber s q).valid = s.valid := rfl
@[simp] theorem clobber_haz : (State.clobber s q).haz = s.haz := rfl
@[simp] theorem clobber_phase : (State.clobber s q).phase = s.phase := rfl
@[simp] theorem clobber_errcode : (State.clobber s q).errcode = s.errcode := rfl
@[simp] theorem clobber_errinfo : (State.clobber s q).errinfo = s.errinfo := rfl
@[simp] theorem clobber_cmd : (State.clobber s q).cmd = s.cmd := rfl
@[simp] theorem clobber_dimN : (State.clobber s q).dimN = s.dimN := rfl
@[simp] theorem clobber_dimV : (State.clobber s q).dimV = s.dimV := rfl
@[simp] theorem clobber_dimM : (State.clobber s q).dimM = s.dimM := rfl
@[simp] theorem clobber_laRows : (State.clobber s q).laRows = s.laRows := rfl
@[simp] theorem clobber_laCols : (State.clobber s q).laCols = s.laCols := rfl
@[simp] theorem clobber_sigLen : (State.clobber s q).sigLen = s.sigLen := rfl
@[simp] theorem clobber_tgtLen : (State.clobber s q).tgtLen = s.tgtLen := rfl
@[simp] theorem clobber_attempt : (State.clobber s q).attempt = s.attempt := rfl
@[simp] theorem clobber_progress : (State.clobber s q).progress = s.progress := rfl
@[simp] theorem clobber_rng : (State.clobber s q).rng = s.rng := rfl
@[simp] theorem clobber_omemEpoch : (State.clobber s q).omemEpoch = s.omemEpoch := rfl
@[simp] theorem clobber_freeCount : (State.clobber s q).freeCount = s.freeCount + min q.2 (s.params.omemSize - q.1) := rfl
@[simp] theorem clobber_answers : (State.clobber s q).answers = s.answers := rfl
@[simp] theorem clobber_agenda : (State.clobber s q).agenda = s.agenda := rfl
end clobber

section busAnswer
variable (width : BusWidth) (s : State)
@[simp] theorem busAnswer_params : (busAnswer width s).params = s.params := rfl
@[simp] theorem busAnswer_g : (busAnswer width s).g = s.g := rfl
@[simp] theorem busAnswer_p : (busAnswer width s).p = s.p := rfl
@[simp] theorem busAnswer_ieDone : (busAnswer width s).ieDone = s.ieDone := rfl
@[simp] theorem busAnswer_ieErr : (busAnswer width s).ieErr = s.ieErr := rfl
@[simp] theorem busAnswer_busy : (busAnswer width s).busy = s.busy := rfl
@[simp] theorem busAnswer_done : (busAnswer width s).done = s.done := rfl
@[simp] theorem busAnswer_err : (busAnswer width s).err = s.err := rfl
@[simp] theorem busAnswer_valid : (busAnswer width s).valid = s.valid := rfl
@[simp] theorem busAnswer_haz : (busAnswer width s).haz = s.haz := rfl
@[simp] theorem busAnswer_phase : (busAnswer width s).phase = s.phase := rfl
@[simp] theorem busAnswer_errcode : (busAnswer width s).errcode = s.errcode := rfl
@[simp] theorem busAnswer_errinfo : (busAnswer width s).errinfo = s.errinfo := rfl
@[simp] theorem busAnswer_cmd : (busAnswer width s).cmd = s.cmd := rfl
@[simp] theorem busAnswer_dimN : (busAnswer width s).dimN = s.dimN := rfl
@[simp] theorem busAnswer_dimV : (busAnswer width s).dimV = s.dimV := rfl
@[simp] theorem busAnswer_dimM : (busAnswer width s).dimM = s.dimM := rfl
@[simp] theorem busAnswer_laRows : (busAnswer width s).laRows = s.laRows := rfl
@[simp] theorem busAnswer_laCols : (busAnswer width s).laCols = s.laCols := rfl
@[simp] theorem busAnswer_sigLen : (busAnswer width s).sigLen = s.sigLen := rfl
@[simp] theorem busAnswer_tgtLen : (busAnswer width s).tgtLen = s.tgtLen := rfl
@[simp] theorem busAnswer_attempt : (busAnswer width s).attempt = s.attempt := rfl
@[simp] theorem busAnswer_omem : (busAnswer width s).omem = s.omem := rfl
@[simp] theorem busAnswer_progress : (busAnswer width s).progress = s.progress := rfl
@[simp] theorem busAnswer_rng : (busAnswer width s).rng = s.rng := rfl
@[simp] theorem busAnswer_omemEpoch : (busAnswer width s).omemEpoch = s.omemEpoch := rfl
@[simp] theorem busAnswer_freeCount : (busAnswer width s).freeCount = s.freeCount := rfl
@[simp] theorem busAnswer_answers : (busAnswer width s).answers = .bus (busWord ((s.answers.take width.bytes).reverse.map HostAnswer.byte)) :: s.answers := rfl
@[simp] theorem busAnswer_agenda : (busAnswer width s).agenda = s.agenda := rfl
end busAnswer

section resetRegisters
variable (s : State)
@[simp] theorem resetRegisters_params : (State.resetRegisters s).params = s.params := rfl
@[simp] theorem resetRegisters_g : (State.resetRegisters s).g = Vector.replicate 16 0#8 := rfl
@[simp] theorem resetRegisters_p : (State.resetRegisters s).p = Vector.replicate 16 0#32 := rfl
@[simp] theorem resetRegisters_ieDone : (State.resetRegisters s).ieDone = false := rfl
@[simp] theorem resetRegisters_ieErr : (State.resetRegisters s).ieErr = false := rfl
@[simp] theorem resetRegisters_busy : (State.resetRegisters s).busy = false := rfl
@[simp] theorem resetRegisters_done : (State.resetRegisters s).done = false := rfl
@[simp] theorem resetRegisters_err : (State.resetRegisters s).err = false := rfl
@[simp] theorem resetRegisters_valid : (State.resetRegisters s).valid = false := rfl
@[simp] theorem resetRegisters_haz : (State.resetRegisters s).haz = false := rfl
@[simp] theorem resetRegisters_phase : (State.resetRegisters s).phase = .idle := rfl
@[simp] theorem resetRegisters_errcode : (State.resetRegisters s).errcode = 0#4 := rfl
@[simp] theorem resetRegisters_errinfo : (State.resetRegisters s).errinfo = 0#32 := rfl
@[simp] theorem resetRegisters_cmd : (State.resetRegisters s).cmd = 0#32 := rfl
@[simp] theorem resetRegisters_dimN : (State.resetRegisters s).dimN = 0#8 := rfl
@[simp] theorem resetRegisters_dimV : (State.resetRegisters s).dimV = 0#8 := rfl
@[simp] theorem resetRegisters_dimM : (State.resetRegisters s).dimM = 0#8 := rfl
@[simp] theorem resetRegisters_laRows : (State.resetRegisters s).laRows = 0#8 := rfl
@[simp] theorem resetRegisters_laCols : (State.resetRegisters s).laCols = 0#8 := rfl
@[simp] theorem resetRegisters_sigLen : (State.resetRegisters s).sigLen = 0#8 := rfl
@[simp] theorem resetRegisters_tgtLen : (State.resetRegisters s).tgtLen = 0#8 := rfl
@[simp] theorem resetRegisters_attempt : (State.resetRegisters s).attempt = 0#32 := rfl
@[simp] theorem resetRegisters_omem : (State.resetRegisters s).omem = s.omem := rfl
@[simp] theorem resetRegisters_progress : (State.resetRegisters s).progress = 0 := rfl
@[simp] theorem resetRegisters_rng : (State.resetRegisters s).rng = s.rng := rfl
@[simp] theorem resetRegisters_omemEpoch : (State.resetRegisters s).omemEpoch = s.omemEpoch := rfl
@[simp] theorem resetRegisters_freeCount : (State.resetRegisters s).freeCount = s.freeCount := rfl
@[simp] theorem resetRegisters_answers : (State.resetRegisters s).answers = s.answers := rfl
@[simp] theorem resetRegisters_agenda : (State.resetRegisters s).agenda = s.agenda := rfl
end resetRegisters

end Sys2Proof.Machine
end

