-- ==== Sys2Proof/Laws/Memory.lean ====
section
/-! SUPPORT. Read after write over OMEM, and the canonical form that every memory operation keeps. -/
namespace Sys2Proof.Machine

@[simp] theorem lookup_nil (x : Nat) : Memory.lookup [] x = none := rfl

theorem lookup_cons (a : Nat) (b : Byte) (m : Memory) (x : Nat) :
    Memory.lookup ((a, b) :: m) x = if x = a then some b else Memory.lookup m x := rfl

/-- A read after a write: the byte written at its address, every other byte as before. -/
theorem lookup_store (m : Memory) (x : Nat) (v : Byte) (y : Nat) :
    Memory.lookup (Memory.store m x v) y = if y = x then some v else Memory.lookup m y := by
  induction m with
  | nil => rfl
  | cons c m ih =>
    obtain ⟨a, b⟩ := c
    by_cases h1 : x < a
    · simp [Memory.store, h1, lookup_cons]
    · by_cases h2 : x = a
      · subst h2
        by_cases h3 : y = x <;> simp [Memory.store, lookup_cons, h3]
      · by_cases h3 : y = a
        · have h4 : y ≠ x := fun h => h2 (h ▸ h3)
          have h5 : a ≠ x := fun h => h2 h.symm
          simp [Memory.store, h1, h2, lookup_cons, h3, h5]
        · simp [Memory.store, h1, h2, lookup_cons, h3, ih]

/-- A read after writing bytes at ascending addresses. -/
theorem lookup_storeAll (bs : List Byte) (m : Memory) (base y : Nat) :
    Memory.lookup (Memory.storeAll m base bs) y
      = if base ≤ y ∧ y < base + bs.length then some (bs.getD (y - base) 0#8) else Memory.lookup m y := by
  induction bs generalizing m base with
  | nil => simp [Memory.storeAll]
  | cons b bs ih =>
    rw [Memory.storeAll, ih, lookup_store]
    by_cases h1 : y = base
    · subst h1; simp
    · by_cases h2 : base + 1 ≤ y ∧ y < base + 1 + bs.length
      · have h3 : y - base = (y - (base + 1)) + 1 := by omega
        have h4 : base ≤ y ∧ y < base + (bs.length + 1) := by omega
        simp [h2, h4, h3]
      · have h4 : ¬ (base ≤ y ∧ y < base + (bs.length + 1)) := by omega
        rw [if_neg h2, if_neg h1, List.length_cons, if_neg h4]

/-- The addresses a write can list: its own and those listed before. -/
theorem mem_store {m : Memory} {x : Nat} {v : Byte} {c : Host.Cell} (h : c ∈ Memory.store m x v) :
    c = (x, v) ∨ c ∈ m := by
  induction m with
  | nil => simpa [Memory.store] using h
  | cons d m ih =>
    obtain ⟨a, b⟩ := d
    rw [Memory.store] at h
    split at h
    · simpa using h
    · split at h
      · rcases List.mem_cons.1 h with h | h
        · exact Or.inl h
        · exact Or.inr (List.mem_cons_of_mem _ h)
      · rcases List.mem_cons.1 h with h | h
        · exact Or.inr (h ▸ List.mem_cons_self ..)
        · exact (ih h).imp id (List.mem_cons_of_mem _)

/-- The canonical form of a memory with a first cell. -/
theorem wf_cons (a : Nat) (b : Byte) (m : Memory) :
    Memory.wf ((a, b) :: m) = true ↔ (∀ c ∈ m, a < c.1) ∧ Memory.wf m = true := by
  simp [Memory.wf, List.pairwise_cons]

/-- Writing a byte keeps the canonical form. -/
theorem store_wf (m : Memory) (x : Nat) (v : Byte) (h : Memory.wf m = true) : Memory.wf (Memory.store m x v) = true := by
  induction m with
  | nil => simp [Memory.store, Memory.wf]
  | cons d m ih =>
    obtain ⟨a, b⟩ := d
    obtain ⟨h1, h2⟩ := (wf_cons a b m).1 h
    rw [Memory.store]
    split
    · rename_i hx
      refine (wf_cons _ _ _).2 ⟨fun c hc => ?_, h⟩
      rcases List.mem_cons.1 hc with hc | hc
      · subst hc; exact hx
      · exact lt_trans hx (h1 c hc)
    · split
      · rename_i hx; subst hx; exact (wf_cons _ _ _).2 ⟨h1, h2⟩
      · refine (wf_cons _ _ _).2 ⟨fun c hc => ?_, ih h2⟩
        rcases mem_store hc with hc | hc
        · subst hc; simp; omega
        · exact h1 c hc

/-- Writing bytes keeps the canonical form. -/
theorem storeAll_wf (bs : List Byte) (m : Memory) (base : Nat) (h : Memory.wf m = true) :
    Memory.wf (Memory.storeAll m base bs) = true := by
  induction bs generalizing m base with
  | nil => exact h
  | cons b bs ih => exact ih _ _ (store_wf m base b h)

/-- The addresses that writing bytes can list. -/
theorem mem_storeAll {bs : List Byte} {m : Memory} {base : Nat} {c : Host.Cell}
    (h : c ∈ Memory.storeAll m base bs) : (base ≤ c.1 ∧ c.1 < base + bs.length) ∨ c ∈ m := by
  induction bs generalizing m base with
  | nil => exact Or.inr h
  | cons b bs ih =>
    rcases ih h with h | h
    · left; simp; omega
    · rcases mem_store h with h | h
      · left; subst h; simp
      · exact Or.inr h

/-- State.reset's OMEM has the canonical form. -/
theorem reset_omem_wf (p : Params) : Memory.wf (State.resetWith p).omem = true := rfl

/-- What OMEM reads as after bytes have been written. -/
theorem omemByte_writeBytes (s : State) (base : Nat) (bs : List Byte) (a : Nat) :
    (s.writeBytes base bs).omemByte a
      = if base ≤ a ∧ a < base + bs.length then bs.getD (a - base) 0#8 else s.omemByte a := by
  unfold State.omemByte
  rw [writeBytes_omem, writeBytes_omemEpoch, lookup_storeAll]
  split <;> simp

/-- OMEM reads depend on the cells and the epoch only. -/
theorem omemByte_congr {s t : State} (h1 : t.omem = s.omem) (h2 : t.omemEpoch = s.omemEpoch) (a : Nat) :
    t.omemByte a = s.omemByte a := by
  unfold State.omemByte; rw [h1, h2]

end Sys2Proof.Machine
end

