-- ==== Sys2Proof/Laws/Ops.lean ====
section
/-! SUPPORT. One lemma for each shared operation that says once everything it can do. -/
namespace Sys2Proof.Machine

/-! ### Registers -/

theorem readG_writeG (s : State) (d r : GReg) (x : Byte) :
    (s.writeG d x).readG r = if r = d then x else s.readG r := by
  by_cases h : r = d
  · subst h; simp [State.readG, State.writeG]
  · have : d.val ≠ r.val := fun h' => h (Fin.ext h'.symm)
    simp [State.readG, State.writeG, h, this]

theorem readP_writeP (s : State) (d r : PReg) (x : Word) :
    (s.writeP d x).readP r = if r = d then x else s.readP r := by
  by_cases h : r = d
  · subst h; simp [State.readP, State.writeP]
  · have : d.val ≠ r.val := fun h' => h (Fin.ext h'.symm)
    simp [State.readP, State.writeP, h, this]

theorem readG_congr {s t : State} (h : t.g = s.g) (r : GReg) : t.readG r = s.readG r := by
  unfold State.readG; rw [h]

theorem readP_congr {s t : State} (h : t.p = s.p) (r : PReg) : t.readP r = s.readP r := by
  unfold State.readP; rw [h]

/-! ### Entry checks -/

@[simp] theorem firstError_nil : firstError [] = none := rfl

theorem firstError_cons (ok : Bool) (e : ErrorKind) (rest : List (Bool × ErrorKind)) :
    firstError ((ok, e) :: rest) = if ok then firstError rest else some e := rfl

/-- Every requirement holds exactly when no error is raised. -/
theorem firstError_eq_none (checks : List (Bool × ErrorKind)) :
    firstError checks = none ↔ ∀ c ∈ checks, c.1 = true := by
  induction checks with
  | nil => simp
  | cons c rest ih =>
    obtain ⟨ok, e⟩ := c
    cases ok <;> simp [firstError_cons, ih]

/-- A guarded command either latches the first error or runs its body. -/
theorem withChecks_cases (checks : List (Bool × ErrorKind)) (s : State) (body : Out) :
    (∃ e, firstError checks = some e ∧ withChecks checks s body = .next (raiseError e s))
      ∨ (firstError checks = none ∧ withChecks checks s body = body) := by
  unfold withChecks
  cases h : firstError checks with
  | none => exact Or.inr ⟨rfl, rfl⟩
  | some e => exact Or.inl ⟨e, rfl, rfl⟩

theorem withChecks_of_none {checks : List (Bool × ErrorKind)} (h : firstError checks = none) (s : State) (body : Out) :
    withChecks checks s body = body := by unfold withChecks; rw [h]

theorem withChecks_of_some {checks : List (Bool × ErrorKind)} {e : ErrorKind} (h : firstError checks = some e)
    (s : State) (body : Out) : withChecks checks s body = .next (raiseError e s) := by unfold withChecks; rw [h]

/-! ### The RNG stream -/

/-- A draw takes the first k bytes offered, and fails exactly when there are fewer. -/
theorem draw_cases (s : State) (k : Nat) :
    (s.rng.length < k ∧ s.draw k = none)
      ∨ (k ≤ s.rng.length ∧ s.draw k = some (s.rng.take k, { s with rng := s.rng.drop k })) := by
  unfold State.draw
  by_cases h : k ≤ s.rng.length
  · exact Or.inr ⟨h, if_pos h⟩
  · exact Or.inl ⟨by omega, if_neg h⟩

/-! ### Regions -/

@[simp] theorem vecOf_length (k : Nat) (e : Nat → Byte) : (vecOf k e).length = k := by simp [vecOf]

@[simp] theorem readBytes_length (s : State) (base len : Nat) : (s.readBytes base len).length = len := by
  simp [State.readBytes]

@[simp] theorem bytesOfMat_length (r c : Nat) (m : Mat) : (bytesOfMat r c m).length = r * c := by simp [bytesOfMat]

@[simp] theorem matvec_length (r c : Nat) (m : Mat) (x : Vec) : (matvec r c m x).length = r := by simp [matvec]

@[simp] theorem writeVec_eq (s : State) (base : Nat) (x : Vec) : s.writeVec base x = s.writeBytes base x := rfl

theorem writeMat_eq (s : State) (base r c : Nat) (m : Mat) :
    s.writeMat base r c m = s.writeBytes base (bytesOfMat r c m) := rfl

theorem vecAt_vecOf {k i : Nat} (h : i < k) (e : Nat → Byte) : vecAt (vecOf k e) i = e i := by
  simp [vecAt, vecOf, h]

theorem matAt_matOf {r c i j : Nat} (hi : i < r) (hj : j < c) (e : Nat → Nat → Byte) :
    matAt (matOf r c e) i j = e i j := by
  unfold matAt matRow matOf
  simp [hi, vecAt_vecOf hj]

theorem readBytes_getD (s : State) (base len k : Nat) (h : k < len) :
    (s.readBytes base len).getD k 0#8 = s.omemByte (base + k) := by
  simp [State.readBytes, h]

theorem bytesOfMat_getD {r c i j : Nat} (hi : i < r) (hj : j < c) (m : Mat) :
    (bytesOfMat r c m).getD (i * c + j) 0#8 = matAt m i j := by
  have hc : 0 < c := by omega
  have h : i * c + j < r * c := by
    have := Nat.mul_le_mul_right c (Nat.succ_le_of_lt hi)
    rw [Nat.succ_mul] at this; omega
  have h1 : (i * c + j) / c = i := by
    rw [Nat.mul_comm, Nat.mul_add_div hc, Nat.div_eq_of_lt hj, Nat.add_zero]
  have h2 : (i * c + j) % c = j := by
    rw [Nat.mul_comm, Nat.mul_add_mod, Nat.mod_eq_of_lt hj]
  change vecAt (vecOf (r * c) _) _ = _
  rw [vecAt_vecOf h, h1, h2]

/-! ### Ending a command -/

/-- Completion, over registers, OMEM and the RNG stream. -/
theorem completeCommand_data (s : State) :
    (completeCommand s).g = s.g ∧ (completeCommand s).p = s.p ∧ (completeCommand s).omem = s.omem
      ∧ (completeCommand s).rng = s.rng := ⟨rfl, rfl, rfl, rfl⟩

/-- Taking an error is the latch of 60 R270 and nothing else. -/
theorem raiseError_latches (e : ErrorKind) (s : State) : Latches e s (raiseError e s) :=
  ⟨rfl, rfl, rfl, rfl, rfl, rfl, ⟨rfl, rfl, rfl, rfl, rfl, rfl, rfl, rfl, rfl⟩, fun _ => rfl, fun _ => rfl, fun _ => rfl,
    ⟨⟨rfl, rfl, rfl, rfl, rfl⟩, rfl, rfl⟩⟩

/-- Completing a state that differs from s in what commands write only. -/
theorem completes_of {s t : State} (h1 : t.err = s.err) (h2 : t.errcode = s.errcode) (h3 : t.errinfo = s.errinfo)
    (h4 : SameOuter s t) : Completes s (completeCommand t) := ⟨rfl, rfl, rfl, h1, h2, h3, h4⟩

/-! ### The platform bus -/

/-- Byte k of an assembled bus word is the k-th byte, for the four bytes a word has. -/
theorem busWord_byte (bs : List Byte) (k : Nat) (hk : k < 4) : busByte (busWord bs) k = bs.getD k 0#8 := by
  induction bs generalizing k with
  | nil => simp [busWord, busByte]
  | cons b bs ih =>
    apply BitVec.eq_of_getLsbD_eq
    intro i hi
    cases k with
    | zero =>
      have h1 : i < 32 := by omega
      simp [busWord, busByte, hi, h1]
    | succ k =>
      have h := congrArg (fun x : Byte => x.getLsbD i) (ih k (by omega))
      have h1 : 8 * (k + 1) + i < 32 := by omega
      have h2 : ¬ 8 * (k + 1) + i < 8 := by omega
      have h3 : 8 * (k + 1) + i - 8 = 8 * k + i := by omega
      have h4 : b.getLsbD (8 * (k + 1) + i) = false := BitVec.getLsbD_of_ge _ _ (by omega)
      simp only [busByte, BitVec.getLsbD_extractLsb', hi, decide_true, Bool.true_and] at h
      have h5 : 8 * k + i < 32 := by omega
      simp only [BitVec.getLsbD_eq_getElem h5, BitVec.getLsbD_eq_getElem hi] at h
      simpa [busWord, busByte, hi, h1, h2, h3, h4] using h

/-- A bus access either stops or puts its transactions, and the answer to a read of OMEM, at the front of the agenda. -/
theorem busAccess_cases (a : BusAccess) (s : State) :
    (∃ ts, busTransactions s.params a = .next ts
        ∧ busAccess a s = .next { s with agenda := ts.map Event.host ++ (busReply a.width ts ++ s.agenda) })
      ∨ (∃ f, busTransactions s.params a = .fault f ∧ busAccess a s = .fault f)
      ∨ (∃ r, busTransactions s.params a = .refused r ∧ busAccess a s = .refused r) := by
  unfold busAccess
  cases h : busTransactions s.params a with
  | next ts => exact Or.inl ⟨ts, rfl, rfl⟩
  | fault f => exact Or.inr (Or.inl ⟨f, rfl, rfl⟩)
  | refused r => exact Or.inr (Or.inr ⟨r, rfl, rfl⟩)

/-! ### Matching events -/

theorem nextEvent_nil {s : State} (h : s.agenda = []) : nextEvent s = engineTurn s := by
  unfold nextEvent; rw [h]

theorem nextEvent_cons {s : State} {e : Event} {rest : List Event} (h : s.agenda = e :: rest) :
    nextEvent s = handleEvent e { s with agenda := rest } := by
  unfold nextEvent; rw [h]

end Sys2Proof.Machine
end

