-- ==== Sys2Proof/Laws/PerInstr.lean ====
section
/-! SUPPORT. Per-instruction family EncodedOpcode: the encoded word carries the opcode that 30_encoding R94 gives the
command, in bits 31 to 24 (R90). -/
namespace Sys2Proof

/-- The `op` column of R94. -/
def opcodeOf : Instr → BitVec 8
  | .nop => 0x00
  | .gli _ _ => 0x01
  | .gmv _ _ => 0x02
  | .gld _ _ _ => 0x03
  | .gst _ _ _ => 0x04
  | .pli _ _ => 0x05
  | .plui _ _ => 0x06
  | .paddi _ _ _ => 0x07
  | .pmv _ _ => 0x08
  | .csrw _ _ => 0x09
  | .fadd _ _ _ => 0x10
  | .fsub _ _ _ => 0x11
  | .fmul _ _ _ => 0x12
  | .finv _ _ => 0x13
  | .mvmul _ _ _ => 0x20
  | .minv _ _ => 0x21
  | .msolve _ _ _ => 0x22
  | .fgen _ => 0x30
  | .peval _ _ _ => 0x31
  | .pevala _ _ _ => 0x32
  | .keygen _ _ _ => 0x40
  | .drawv _ => 0x50
  | .buildsys _ _ _ _ _ => 0x51
  | .sign _ _ _ _ => 0x52
  | .verify _ _ _ _ => 0x60

/-- The word of a command has the opcode of its row. -/
def Laws.EncodedOpcode.Statement (i : Instr) : Prop := (encode i).extractLsb' 24 8 = opcodeOf i

theorem encode_op (i : Instr) : (encode i).extractLsb' 24 8 = (encodeFields i).op :=
  congrArg Fields.op (splitWord_joinWord (encodeFields i))

theorem Laws.EncodedOpcode.nop : Laws.EncodedOpcode.Statement (.nop) := encode_op _
theorem Laws.EncodedOpcode.gli (gd : GReg) (imm8 : BitVec 8) : Laws.EncodedOpcode.Statement (.gli gd imm8) := encode_op _
theorem Laws.EncodedOpcode.gmv (gd ga : GReg) : Laws.EncodedOpcode.Statement (.gmv gd ga) := encode_op _
theorem Laws.EncodedOpcode.gld (gd : GReg) (pa : PReg) (imm12 : BitVec 12) : Laws.EncodedOpcode.Statement (.gld gd pa imm12) := encode_op _
theorem Laws.EncodedOpcode.gst (gs : GReg) (pa : PReg) (imm12 : BitVec 12) : Laws.EncodedOpcode.Statement (.gst gs pa imm12) := encode_op _
theorem Laws.EncodedOpcode.pli (pd : PReg) (imm16 : BitVec 16) : Laws.EncodedOpcode.Statement (.pli pd imm16) := encode_op _
theorem Laws.EncodedOpcode.plui (pd : PReg) (imm16 : BitVec 16) : Laws.EncodedOpcode.Statement (.plui pd imm16) := encode_op _
theorem Laws.EncodedOpcode.paddi (pd pa : PReg) (simm12 : BitVec 12) : Laws.EncodedOpcode.Statement (.paddi pd pa simm12) := encode_op _
theorem Laws.EncodedOpcode.pmv (pd pa : PReg) : Laws.EncodedOpcode.Statement (.pmv pd pa) := encode_op _
theorem Laws.EncodedOpcode.csrw (csr : BitVec 8) (imm16 : BitVec 16) : Laws.EncodedOpcode.Statement (.csrw csr imm16) := encode_op _
theorem Laws.EncodedOpcode.fadd (gd ga gb : GReg) : Laws.EncodedOpcode.Statement (.fadd gd ga gb) := encode_op _
theorem Laws.EncodedOpcode.fsub (gd ga gb : GReg) : Laws.EncodedOpcode.Statement (.fsub gd ga gb) := encode_op _
theorem Laws.EncodedOpcode.fmul (gd ga gb : GReg) : Laws.EncodedOpcode.Statement (.fmul gd ga gb) := encode_op _
theorem Laws.EncodedOpcode.finv (gd ga : GReg) : Laws.EncodedOpcode.Statement (.finv gd ga) := encode_op _
theorem Laws.EncodedOpcode.mvmul (pd pm pv : PReg) : Laws.EncodedOpcode.Statement (.mvmul pd pm pv) := encode_op _
theorem Laws.EncodedOpcode.minv (pd pm : PReg) : Laws.EncodedOpcode.Statement (.minv pd pm) := encode_op _
theorem Laws.EncodedOpcode.msolve (pd pm pb : PReg) : Laws.EncodedOpcode.Statement (.msolve pd pm pb) := encode_op _
theorem Laws.EncodedOpcode.fgen (pf : PReg) : Laws.EncodedOpcode.Statement (.fgen pf) := encode_op _
theorem Laws.EncodedOpcode.peval (gd : GReg) (pp px : PReg) : Laws.EncodedOpcode.Statement (.peval gd pp px) := encode_op _
theorem Laws.EncodedOpcode.pevala (pd pf px : PReg) : Laws.EncodedOpcode.Statement (.pevala pd pf px) := encode_op _
theorem Laws.EncodedOpcode.keygen (pf pt pi : PReg) : Laws.EncodedOpcode.Statement (.keygen pf pt pi) := encode_op _
theorem Laws.EncodedOpcode.drawv (pd : PReg) : Laws.EncodedOpcode.Statement (.drawv pd) := encode_op _
theorem Laws.EncodedOpcode.buildsys (pa pb pf px pt : PReg) : Laws.EncodedOpcode.Statement (.buildsys pa pb pf px pt) := encode_op _
theorem Laws.EncodedOpcode.sign (ps pf pi pt : PReg) : Laws.EncodedOpcode.Statement (.sign ps pf pi pt) := encode_op _
theorem Laws.EncodedOpcode.verify (pf pm pt ps : PReg) : Laws.EncodedOpcode.Statement (.verify pf pm pt ps) := encode_op _

end Sys2Proof
end

