-- ==== Sys2Proof/Tests/Slice0.lean ====
section
/-! SUPPORT. The model's own tests. Expected values are those of 95_test_vectors (the section is named) or are worked out
by hand from the rule named; then, for every obligation with hypotheses, a concrete case that meets them. -/
namespace Sys2Proof.Tests
open Sys2Proof.Machine
set_option Elab.async false

/-! ### Well-formedness (30_encoding R99) -/

theorem test_csrw_value_above_255_is_refused : Instr.wellFormed (.csrw 0x06 0x0106) = false := by decide
theorem test_csrw_value_256_is_refused_at_the_last_index : Instr.wellFormed (.csrw 0x0C 0x0100) = false := by decide
theorem test_csrw_value_255_is_accepted : Instr.wellFormed (.csrw 0x06 0x00FF) = true := by decide

/-! ### Decoding: words written out from R90, R91, R94 (95 sections 2.4, 2.5, 4) -/

theorem test_decode_data_movement :
    decode 0x00000000 = some .nop ∧ decode 0x01F000FF = some (.gli 15 0xFF) ∧ decode 0x02220000 = some (.gmv 2 2)
      ∧ decode 0x03700001 = some (.gld 7 0 1) ∧ decode 0x04300001 = some (.gst 3 0 1)
      ∧ decode 0x05301234 = some (.pli 3 0x1234) ∧ decode 0x0630ABCD = some (.plui 3 0xABCD)
      ∧ decode 0x07210800 = some (.paddi 2 1 0x800) ∧ decode 0x08120000 = some (.pmv 1 2)
      ∧ decode 0x09060106 = some (.csrw 0x06 0x0106) := by decide

theorem test_decode_field_arithmetic :
    decode 0x10312000 = some (.fadd 3 1 2) ∧ decode 0x11875000 = some (.fsub 8 7 5)
      ∧ decode 0x12654000 = some (.fmul 6 5 4) ∧ decode 0x13A80000 = some (.finv 10 8) := by decide

theorem test_decode_linear_algebra :
    decode 0x20312000 = some (.mvmul 3 1 2) ∧ decode 0x21410000 = some (.minv 4 1)
      ∧ decode 0x22213000 = some (.msolve 2 1 3) := by decide

theorem test_decode_central_map :
    decode 0x30500000 = some (.fgen 5) ∧ decode 0x31123000 = some (.peval 1 2 3)
      ∧ decode 0x32915000 = some (.pevala 9 1 5) := by decide

theorem test_decode_keygen_signer_verifier :
    decode 0x40012000 = some (.keygen 0 1 2) ∧ decode 0x50500000 = some (.drawv 5)
      ∧ decode 0x51781530 = some (.buildsys 7 8 1 5 3) ∧ decode 0x52012300 = some (.sign 0 1 2 3)
      ∧ decode 0x60143000 = some (.verify 1 4 3 0) := by decide

theorem test_decode_illegal_words :
    [0x00000001#32, 0x00100000#32, 0x10123001#32, 0x13123000#32, 0x01110057#32, 0x30510000#32, 0x51012345#32,
      0x52012310#32, 0x0A000000#32, 0x14000000#32, 0x23000000#32, 0x33000000#32, 0x41000000#32, 0x53000000#32,
      0x61000000#32, 0xFFFFFFFF#32].all (fun w => (decode w).isNone) = true := by decide

/-! ### Small states -/

/-- The state a step leads to. -/
def after : Out → Option State
  | .next t => some t
  | _ => none

/-- The state after the hardware reset with a command in flight. -/
def flight : State := { State.reset with busy := true }

/-- OMEM bytes written at an address. -/
def put (a : Nat) (bs : List Byte) (s : State) : State := s.writeBytes a bs

/-- The record REC10 (95 section 3). -/
def rec10 : List Byte := [0x01, 0x02, 0x03, 0x04, 0x05, 0x06, 0x07, 0x08, 0x09, 0x0A]

/-- REC10 with `vo` and the oil coefficient zero: every system is singular (95 section 3.5). -/
def recSingular : List Byte := [0x01, 0x02, 0x03, 0x04, 0x00, 0x00, 0x07, 0x08, 0x00, 0x0A]

/-- M3 (95 section 2.3). -/
def m3 : List Byte := [0x00, 0x01, 0x02, 0x03, 0x04, 0x05, 0x06, 0x07, 0x09]

/-- The inverse of M3 (95 section 2.3). -/
def m3inv : List Byte := [0x6D, 0x91, 0xBC, 0x98, 0x36, 0x1B, 0xC2, 0x1B, 0x83]

/-- Linear algebra: M3 at P1 = 10, x at P2 = 20, a result at P3 = 30, a singular matrix at P4 = 40. -/
def linear : State :=
  put 0x40 [0x01, 0x02, 0x03, 0x02, 0x04, 0x06, 0x05, 0x06, 0x07] (put 0x20 [0x11, 0x22, 0x33] (put 0x10 m3
    { ((((flight.writeP 1 0x10).writeP 2 0x20).writeP 3 0x30).writeP 4 0x40) with laRows := 3, laCols := 3 }))

/-- UOV with n = 3, v = 2, m = 1: F at P1 = 40, T inverse at P2 = 50, t at P3 = 60, a result at P0 = 70, T at P4 = 90, a
vector x at P5 = 80, b at P6 = 88 (95 sections 3.1 to 3.6). -/
def uov : State :=
  put 0x90 m3 (put 0x80 [0x10, 0x20, 0x30] (put 0x60 [0x77] (put 0x50 m3inv (put 0x40 rec10
    { (((((((flight.writeP 0 0x70).writeP 1 0x40).writeP 2 0x50).writeP 3 0x60).writeP 4 0x90).writeP 5 0x80).writeP 6 0x88)
      with dimN := 3, dimV := 2, dimM := 1, tgtLen := 1, sigLen := 3, cmd := 0x52012300 }))))

/-- KEYGEN with n = 2, v = 1, m = 1: F at P0 = 0, T at P1 = 40, T inverse at P2 = 80 (95 section 3.4). -/
def keys (rng : List Byte) : State :=
  { ((flight.writeP 1 0x40).writeP 2 0x80) with dimN := 2, dimV := 1, dimM := 1, rng := rng, cmd := 0x40012000 }

/-- The RNG bytes of 95 section 3.4: F, a singular T, an invertible T. -/
def keyBytes : List Byte := [0x02, 0x03, 0x04, 0x05, 0x06, 0x00, 0x00, 0x00, 0x00, 0x02, 0x03, 0x01, 0x01]

/-- STATUS, ERRCODE after a command. -/
def flags (o : Out) : Option (Word × BitVec 4) := (after o).map (fun t => (t.statusWord, t.errcode))

/-- OMEM bytes and STATUS after a command. -/
def bytesAfter (o : Out) (a len : Nat) : Option (List Byte × Word) :=
  (after o).map (fun t => (t.readBytes a len, t.statusWord))

/-! ### One command each -/

/-- R230. -/
theorem test_nop_completes : flags (exec .nop flight) = some (0x2, 0) := by decide +kernel

/-- 95 section 2.4. -/
theorem test_gli : (after (exec (.gli 15 0xFF) flight)).map (fun t => (t.readG 15, t.readG 14)) = some (0xFF, 0) := by
  decide +kernel

/-- 95 section 2.4. -/
theorem test_gmv_onto_itself :
    (after (exec (.gmv 2 2) (flight.writeG 2 0x83))).map (fun t => t.readG 2) = some 0x83 := by decide +kernel

/-- R232. -/
theorem test_gmv : (after (exec (.gmv 1 2) (flight.writeG 2 0x83))).map (fun t => (t.readG 1, t.readG 2))
    = some (0x83, 0x83) := by decide +kernel

/-- 95 section 2.4. -/
theorem test_gld : (after (exec (.gld 7 0 1) (put 0x101 [0x1D] (flight.writeP 0 0x100)))).map (fun t => t.readG 7)
    = some 0x1D := by decide +kernel

/-- 95 section 2.4: ea = 2^32, no wrap. -/
theorem test_gld_does_not_wrap : flags (exec (.gld 0 0 1) (flight.writeP 0 0xFFFFFFFF)) = some (0x6, 7) := by
  decide +kernel

/-- 95 section 2.4: the last byte of OMEM. -/
theorem test_gst_last_byte :
    bytesAfter (exec (.gst 3 0 0) ((flight.writeP 0 0xFFFF).writeG 3 0xA5)) 0xFFFF 1 = some ([0xA5], 0x2) := by
  decide +kernel

/-- 95 section 2.4. -/
theorem test_gst_beyond_omem :
    (after (exec (.gst 3 0 1) (flight.writeP 0 0xFFFF))).map (fun t => (t.errcode, t.omem)) = some (7, []) := by
  decide +kernel

/-- 95 section 2.4. -/
theorem test_pli : (after (exec (.pli 3 0x1234) (flight.writeP 3 0xDEADBEEF))).map (fun t => t.readP 3)
    = some 0x00001234 := by decide +kernel

/-- 95 section 2.4. -/
theorem test_plui : (after (exec (.plui 3 0xABCD) (flight.writeP 3 0x00001234))).map (fun t => t.readP 3)
    = some 0xABCD1234 := by decide +kernel

/-- 95 section 2.4. -/
theorem test_paddi_minus_one : (after (exec (.paddi 1 1 0xFFF) flight)).map (fun t => t.readP 1)
    = some 0xFFFFFFFF := by decide +kernel

/-- 95 section 2.4. -/
theorem test_paddi_minus_2048 : (after (exec (.paddi 2 1 0x800) (flight.writeP 1 0x1000))).map (fun t => t.readP 2)
    = some 0x0800 := by decide +kernel

/-- R238. -/
theorem test_pmv : (after (exec (.pmv 1 2) (flight.writeP 2 0x89ABCDEF))).map (fun t => (t.readP 1, t.readP 2))
    = some (0x89ABCDEF, 0x89ABCDEF) := by decide +kernel

/-- 95 section 2.4: bits above 7 dropped. -/
theorem test_csrw_keeps_the_low_byte : (after (exec (.csrw 0x06 0x0106) flight)).map (fun t => (t.dimN, t.dimV))
    = some (6, 0) := by decide +kernel

/-- 95 section 2.4: `ATTEMPT` is not one of the seven. -/
theorem test_csrw_to_attempt_is_illegal : flags (exec (.csrw 0x0D 5) flight) = some (0x6, 6) := by decide +kernel

/-- 95 section 2.1. -/
theorem test_fadd : (after (exec (.fadd 3 1 2) ((flight.writeG 1 0x57).writeG 2 0x83))).map (fun t => t.readG 3)
    = some 0xD4 := by decide +kernel

/-- 95 section 2.1. -/
theorem test_fsub : (after (exec (.fsub 1 1 2) ((flight.writeG 1 0xFF).writeG 2 0x01))).map (fun t => t.readG 1)
    = some 0xFE := by decide +kernel

/-- 95 section 2.1: the trace of R122. -/
theorem test_fmul : (after (exec (.fmul 4 1 2) ((flight.writeG 1 0x57).writeG 2 0x83))).map (fun t => t.readG 4)
    = some 0x31 := by decide +kernel

/-- 95 section 2.1: 01 in the AES field, 8F here. -/
theorem test_fmul_is_not_the_aes_field :
    (after (exec (.fmul 1 1 2) ((flight.writeG 1 0x53).writeG 2 0xCA))).map (fun t => t.readG 1) = some 0x8F := by
  decide +kernel

/-- 95 section 2.2. -/
theorem test_finv : (after (exec (.finv 1 2) (flight.writeG 2 0x53))).map (fun t => t.readG 1) = some 0x8C := by
  decide +kernel

/-- 95 section 4, program 1. -/
theorem test_finv_of_zero : flags (exec (.finv 10 8) flight) = some (0x6, 4) := by decide +kernel

/-- 95 section 2.3. -/
theorem test_mvmul : bytesAfter (exec (.mvmul 3 1 2) linear) 0x30 3 = some ([0x44, 0x44, 0x3E], 0x2) := by
  decide +kernel

/-- 95 section 2.3, 2 by 3. -/
theorem test_mvmul_two_by_three :
    bytesAfter (exec (.mvmul 3 1 2) (put 0x20 [0x83, 0x57, 0xFF] (put 0x10 [0x01, 0x02, 0x03, 0x57, 0x83, 0x00]
      { linear with laRows := 2 }))) 0x30 2 = some ([0x31, 0x00], 0x2) := by decide +kernel

/-- 95 section 2.3: it needs a row swap. -/
theorem test_minv : bytesAfter (exec (.minv 3 1) linear) 0x30 9 = some (m3inv, 0x2) := by decide +kernel

/-- 95 section 2.3: singular at column 2, nothing written. -/
theorem test_minv_singular :
    (after (exec (.minv 3 4) linear)).map (fun t => (t.errcode, decide (t.omem = linear.omem))) = some (2, true) := by
  decide +kernel

/-- 95 section 2.3: the right-hand side and the destination share a region. -/
theorem test_msolve :
    bytesAfter (exec (.msolve 2 1 2) (put 0x20 [0x44, 0x44, 0x3E] linear)) 0x20 3 = some ([0x11, 0x22, 0x33], 0x2) := by
  decide +kernel

/-- 95 section 2.3: 3 by 2 is not square. -/
theorem test_msolve_not_square : flags (exec (.msolve 2 1 2) { linear with laCols := 2 }) = some (0x6, 1) := by
  decide +kernel

/-- 95 section 3.1. -/
theorem test_fgen :
    (after (exec (.fgen 0) { uov with rng := rec10 ++ [0xEE] })).map (fun t => (t.readBytes 0x70 10, t.rng, t.busy))
      = some (rec10, [0xEE], false) := by decide +kernel

/-- 10_state R47: one byte short, the command stays in flight. -/
theorem test_fgen_waits :
    (after (exec (.fgen 0) { uov with rng := rec10.take 9 })).map (fun t => (t.busy, decide (t.omem = uov.omem)))
      = some (true, true) := by decide +kernel

/-- 95 section 3.2. -/
theorem test_peval : (after (exec (.peval 2 1 5) uov)).map (fun t => t.readG 2) = some 0x22 := by decide +kernel

/-- 95 section 3.2: `vv[0][1]` and `vv[1][0]` are both counted. -/
theorem test_peval_counts_both_cross_terms :
    (after (exec (.peval 2 1 5) (put 0x40 [0, 1, 1, 0, 0, 0, 0, 0, 0, 0] (uov.writeG 2 0xFF)))).map (fun t => t.readG 2)
      = some 0x00 := by decide +kernel

/-- 95 section 3.2. -/
theorem test_pevala : bytesAfter (exec (.pevala 0 1 5) uov) 0x70 1 = some ([0x22], 0x2) := by decide +kernel

/-- 95 section 3.4: the second T is the first invertible one. -/
theorem test_keygen :
    (after (exec (.keygen 0 1 2) (keys keyBytes))).map (fun t =>
      (t.readBytes 0 5, t.readBytes 0x40 4, t.readBytes 0x80 4, t.attempt, t.rng))
      = some ([0x02, 0x03, 0x04, 0x05, 0x06], [0x02, 0x03, 0x01, 0x01], [0x01, 0x03, 0x01, 0x02], 2, []) := by
  decide +kernel

/-- 95 section 3.4: KEYGEN_BUDGET = 1 with the same stream. -/
theorem test_keygen_budget :
    (after (exec (.keygen 0 1 2) { keys keyBytes with params := { Params.standard with keygenBudget := some 1 } })).map
      (fun t => (t.errcode, t.attempt, t.omem, t.rng)) = some (8, 1, [], [0x02, 0x03, 0x01, 0x01]) := by decide +kernel

/-- R192. -/
theorem test_drawv :
    (after (exec (.drawv 0) { uov with rng := [0x10, 0x20, 0x30] })).map (fun t => (t.readBytes 0x70 2, t.rng))
      = some ([0x10, 0x20], [0x30]) := by decide +kernel

/-- 95 section 3.4, R192: m = 0 is a DimensionError, no draw. -/
theorem test_drawv_dimension :
    (after (exec (.drawv 0) { uov with dimV := 3, dimM := 0, rng := [1, 2, 3] })).map (fun t => (t.errcode, t.rng))
      = some (1, [1, 2, 3]) := by decide +kernel

/-- 95 section 3.3: A at P0, b at P6. -/
theorem test_buildsys :
    (after (exec (.buildsys 0 6 1 5 3) uov)).map (fun t => (t.omemByte 0x70, t.omemByte 0x88)) = some (0x99, 0xFA) := by
  decide +kernel

/-- 95 section 3.3. -/
theorem test_buildsys_format : flags (exec (.buildsys 0 6 1 5 3) { uov with tgtLen := 0 }) = some (0x6, 5) := by
  decide +kernel

/-- 95 section 3.5, second row: a retry, then success. -/
theorem test_sign_after_a_retry :
    (after (exec (.sign 0 1 2 3) { uov with sigLen := 0, rng := [0x00, 0x8D, 0x10, 0x20] })).map (fun t =>
      (t.readBytes 0x70 3, t.attempt, t.statusWord, t.sigLen, t.rng))
      = some ([0xCA, 0x1E, 0x07], 2, 0x00000502, 3, []) := by decide +kernel

/-- 10_state R47, R197: the first system is singular and the source stops: DRAW_VINEGAR of attempt 2, in flight. -/
theorem test_sign_waits_in_its_second_attempt :
    (after (exec (.sign 0 1 2 3) { uov with rng := [0x00, 0x8D, 0x10] })).map (fun t => (t.attempt, t.statusWord))
      = some (2, 0x00000101) := by decide +kernel

/-- 95 section 3.6, first row. -/
theorem test_verify_accepts :
    flags (exec (.verify 1 4 3 0) (put 0x70 [0xCA, 0x1E, 0x07] uov)) = some (0xA, 0) := by decide +kernel

/-- 95 section 3.6, second row. -/
theorem test_verify_rejects :
    flags (exec (.verify 1 4 3 0) (put 0x70 [0xCB, 0x1E, 0x07] { uov with valid := true })) = some (0x2, 0) := by
  decide +kernel

/-! ### One event each -/

/-- The state after one event. -/
def happens (e : Event) (s : State) : Option State := after (step { s with agenda := [e] })

/-- 95 section 2.5: an illegal word. -/
theorem test_illegal_word_faults :
    (happens .engine { flight with cmd := 0x00000001 }).map (fun t => (t.statusWord, t.errcode, t.errinfo))
      = some (0x6, 6, 0x00000001) := by decide +kernel

/-- 95 section 2.6: only the low byte of `DIM_N` is kept. -/
theorem test_host_write_of_a_dimension :
    (happens (.host (.csrWrite 0x06 0xFFFFFF06)) State.reset).map (fun t => t.csrValue .dimN) = some 0x00000006 := by
  decide +kernel

/-- 95 section 2.6: a command write in the error state. -/
theorem test_command_write_is_dropped_while_err :
    (happens (.host (.csrWrite 0x05 0)) { State.reset with err := true, done := true, cmd := 0x21660000 }).map
      (fun t => (t.statusWord, t.cmd)) = some (0x16, 0x21660000) := by decide +kernel

/-- 95 section 2.6: W1C of ERR. -/
theorem test_error_clear :
    (happens (.host (.csrWrite 0x02 0x4)) { State.reset with err := true, done := true, errcode := 2, errinfo := 9 }).map
      (fun t => (t.statusWord, t.errcode, t.errinfo)) = some (0x2, 0, 0) := by decide +kernel

/-- 95 section 2.6: OMEM beyond its size. -/
theorem test_host_read_beyond_omem :
    (happens (.host (.memRead 0x10000)) State.reset).map (fun t => (t.answers, t.haz)) = some ([.mem 0], true) := by
  decide +kernel

/-- 95 section 2.6: the soft reset; the 3 is discarded. -/
theorem test_soft_reset :
    (happens (.host (.csrWrite 0x01 0x80000003)) (put 5 [0xAB]
      { ((State.reset.writeG 1 0x57).writeP 0 0x100) with dimN := 6, ieDone := true })).map
      (fun t => (t.readG 1, t.readP 0, t.dimN, t.ctrlWord, t.omemByte 5)) = some (0, 0, 0, 0, 0xAB) := by decide +kernel

/-- R197: the host sees BUILD_SYSTEM of the first attempt. -/
theorem test_progress_of_sign :
    (happens .progress { uov with rng := [0x10, 0x20], phase := .drawVinegar, attempt := 1, progress := 1 }).map
      (fun t => (t.attempt, t.statusWord)) = some (1, 0x00000201) := by decide +kernel

/-- R262: the command word is accepted, and the next step executes it. -/
theorem test_withFetchWord :
    (after (step (State.reset.withFetchWord 32 0x01F000FF))).map (fun t => (t.readG 15, t.cmd, t.statusWord))
      = some (0xFF, 0x01F000FF, 0x2) := by decide +kernel

/-- The agenda after a bus access at the given addresses and width, in an instance with the standard windows. -/
def busAgenda (addr : Nat) (width : BusWidth) (data : Option Word) : Option (List Event) :=
  (happens (.bus ⟨addr, width, data⟩) State.reset).map (fun t => t.agenda)

/-- 20_memory R62: a bus word written to OMEM is little-endian. -/
theorem test_bus_word_is_little_endian :
    busAgenda 0x400 .word (some 0x44332211) = some [.host (.memWrite 0 0x11), .host (.memWrite 1 0x22),
      .host (.memWrite 2 0x33), .host (.memWrite 3 0x44)] := by decide +kernel

/-- 20_memory R62: the newest answer is the byte at the highest address, which goes into the highest bits. -/
theorem test_bus_answer_is_little_endian :
    (happens (.busAnswer .word) { State.reset with answers := [.mem 0x44, .mem 0x33, .mem 0x22, .mem 0x11, .csr 9] }).map
      (fun t => t.answers.head?) = some (some (.bus 0x44332211)) := by decide +kernel

/-- 20_memory R67, log 12: a half word that begins one byte below the CSR window is refused, not an OMEM access. -/
theorem test_bus_access_into_the_csr_window :
    busTransactions { Params.standard with hostBase := 0x1000 } ⟨0xFFF, .half, none⟩ = .refused .busCsrNotWord := rfl

/-- 95 section 4, program 2: the error clear after MINV waits for the end of MINV. -/
theorem test_script_waits_before_csr :
    scriptAgenda [.command (.minv 6 6), .expect, .csr 0x02 0x14, .rng [7]]
      = [.rngByte 7, .engine, .host (.csrWrite 0x05 0x21660000), .engine, .engine, .host (.csrWrite 0x02 0x14), .engine] := by
  decide +kernel

/-! ### For every obligation with hypotheses, a case that meets them -/

/-- A state with one event on its agenda. -/
def facing (e : Event) (s : State) : State := { s with agenda := [e] }

/-- A state in the error state. -/
def failed : State := { State.reset with err := true, done := true, errcode := 2, errinfo := 0x21660000, cmd := 0x21660000 }

/-- An outcome that is a next state, as an equation. -/
theorem next_of {o : Out} {t : State} (h : after o = some t) : o = .next t := by
  cases o with
  | next s => simpa [after] using h
  | fault f => simp [after] at h
  | refused r => simp [after] at h

/-- An outcome that is a next state with a property. -/
theorem next_with {o : Out} (p : State → Bool) (h : (after o).any p = true) : ∃ t, o = .next t ∧ p t = true := by
  cases o with
  | next s => exact ⟨s, rfl, by simpa [after] using h⟩
  | fault f => simp [after] at h
  | refused r => simp [after] at h

/-- Both resets with a command in flight, and the hardware reset while idle. -/
theorem witness_ResetsPutRegistersAtTheirValues :
    (facing .hardwareReset linear).agenda = .hardwareReset :: []
      ∧ (facing (.host (.csrWrite 0x01 0x80000000)) linear).agenda = .host (.csrWrite 0x01#8 0x80000000) :: []
      ∧ (0x80000000#32).getLsbD 31 = true ∧ (facing .hardwareReset linear).busy = true
      ∧ (facing .hardwareReset State.reset).busy = false := ⟨rfl, rfl, by decide, rfl, rfl⟩

/-- Idle; and busy with MVMUL into P3 = 30: the last byte before its region and the first after it lie outside. -/
theorem witness_SoftResetPreservesOmem :
    (facing (.host (.csrWrite 0x01 0x80000000)) State.reset).busy = false
      ∧ (facing (.host (.csrWrite 0x01 0x80000000)) State.reset).agenda = [.host (.csrWrite 0x01#8 0x80000000)]
      ∧ { linear with cmd := 0x20312000 }.busy = true ∧ decode { linear with cmd := 0x20312000 }.cmd = some (.mvmul 3 1 2)
      ∧ ∀ a ∈ [0x2F, 0x33], ∀ q ∈ listedRegions { linear with cmd := 0x20312000 } (.mvmul 3 1 2),
        ¬ (q.1 ≤ a ∧ a < q.1 + q.2) := by
  refine ⟨rfl, rfl, rfl, ?_, ?_⟩ <;> decide +kernel

/-- 70 R302: MINV with 2 rows and 3 columns would not pass its entry checks, and has its destination region all the
same. -/
theorem test_flight_regions_before_the_entry_checks :
    { linear with cmd := 0x21310000, laRows := 2 }.flightRegions = [(0x30, 4)] := by decide +kernel

/-- Neither BUSY nor ERR; BUSY; ERR; and a read. -/
theorem witness_CommandWriteIsAcceptedOrDropped :
    (facing (.host (.csrWrite 0x05 0x01F000FF)) State.reset).agenda = [.host (.csrWrite 0x05#8 0x01F000FF)]
      ∧ State.reset.busy = false ∧ State.reset.err = false ∧ flight.busy = true ∧ failed.err = true
      ∧ (facing (.host (.csrRead 0x05)) failed).agenda = [.host (.csrRead 0x05#8)] := ⟨rfl, rfl, rfl, rfl, rfl, rfl⟩

/-- A NOP ends, and an illegal word ends with an error. -/
theorem witness_CoincidingClearDoesNotLoseTheEnd :
    (∃ t, step (facing (.statusWriteAtEnd 0x16) flight) = .next t ∧ (!t.busy) = true)
      ∧ flight.busy = true ∧ flight.err = false
      ∧ (∃ t, step (facing (.statusWriteAtEnd 0x16) { flight with cmd := 1 }) = .next t ∧ (!t.busy) = true)
      ∧ ∃ u, engineTurn { facing (.statusWriteAtEnd 0x16) { flight with cmd := 1 } with agenda := [] } = .next u
        ∧ u.err = true :=
  ⟨next_with _ (by decide +kernel), rfl, rfl, next_with _ (by decide +kernel), next_with _ (by decide +kernel)⟩

/-- The clauses are told apart by the event; the CSR indices next to `CTRL` and `STATUS` are 0x00 and 0x03. -/
theorem witness_BusyHazardSetsHazAndNothingElse :
    flight.busy = true ∧ (0x00#8 ≠ 0x01#8 ∧ 0x00#8 ≠ 0x02#8) ∧ (0x03#8 ≠ 0x01#8 ∧ 0x03#8 ≠ 0x02#8)
      ∧ (facing (.host (.csrWrite 0x03 7)) flight).agenda = [.host (.csrWrite 0x03#8 7)]
      ∧ (facing (.host (.memWrite 0 7)) flight).agenda = [.host (.memWrite 0 7)]
      ∧ (facing (.host (.memRead 0)) flight).agenda = [.host (.memRead 0)]
      ∧ (facing (.host (.csrRead 0xFF)) flight).agenda = [.host (.csrRead 0xFF#8)]
      ∧ (0x7FFFFFFF#32).getLsbD 31 = false
      ∧ (facing (.host (.csrWrite 0x01 0x7FFFFFFF)) flight).agenda = [.host (.csrWrite 0x01#8 0x7FFFFFFF)]
      ∧ (facing (.host (.csrWrite 0x02 0)) flight).agenda = [.host (.csrWrite 0x02#8 0)] := by
  refine ⟨rfl, ?_, ?_, rfl, rfl, rfl, rfl, ?_, rfl, rfl⟩ <;> decide

/-- An error latched, with the next command behind the write; and no error. -/
theorem witness_ErrorClearEndsTheErrorState :
    { failed with agenda := [.host (.csrWrite 0x02 0x4), .host (.csrWrite 0x05 0)] }.agenda
        = .host (.csrWrite 0x02#8 0x4) :: .host (.csrWrite 0x05#8 0) :: []
      ∧ (0x4#32).getLsbD 2 = true ∧ failed.err = true ∧ failed.busy = false ∧ flight.err = false :=
  ⟨rfl, by decide, rfl, rfl, rfl⟩

theorem witness_IrqIsALevelOfDoneAndErr : { State.reset with done := true }.done = true ∧ flight.err = false := ⟨rfl, rfl⟩

theorem witness_CsrReadsFollowTheMap :
    (facing (.host (.csrRead 0x30)) flight).agenda = [.host (.csrRead 0x30#8)]
      ∧ 0x30 ≤ (0x30#8).toNat ∧ 0x30 ≤ (0xFF#8).toNat := ⟨rfl, by decide, by decide⟩

/-- Every clause by its index, 0x02 among them; the first and the last register of the two windows, and the two ends of the reserved
range. -/
theorem witness_IdleCsrWritesFollowTheMap :
    State.reset.busy = false ∧ (facing (.host (.csrWrite 0x06 3)) State.reset).agenda = [.host (.csrWrite 0x06#8 3)]
      ∧ (0x3#32).getLsbD 31 = false
      ∧ 0x10#8 = BitVec.ofNat 8 (0x10 + (0 : Fin 16).val) ∧ 0x1F#8 = BitVec.ofNat 8 (0x10 + (15 : Fin 16).val)
      ∧ 0x20#8 = BitVec.ofNat 8 (0x20 + (0 : Fin 16).val) ∧ 0x2F#8 = BitVec.ofNat 8 (0x20 + (15 : Fin 16).val)
      ∧ (∀ i ∈ [0x00#8, 0x0F#8, 0x30#8, 0xFF#8],
        i.toNat ∈ [0x00, 0x03, 0x04, 0x0D, 0x0E, 0x0F] ∨ 0x30 ≤ i.toNat)
      ∧ ∀ i ∈ [0x2F#8, 0x10#8, 0x01#8, 0x02#8, 0x06#8, 0x0C#8],
        ¬ (i.toNat ∈ [0x00, 0x03, 0x04, 0x0D, 0x0E, 0x0F] ∨ 0x30 ≤ i.toNat) := by
  refine ⟨rfl, rfl, ?_, ?_, ?_, ?_, ?_, ?_, ?_⟩ <;> decide

/-- The last byte of OMEM and the first beyond it, idle and BUSY. -/
theorem witness_HostOmemAccessFollowsItsRule :
    State.reset.busy = false ∧ flight.busy = true ∧ 0xFFFF < State.reset.params.omemSize
      ∧ State.reset.params.omemSize ≤ 0x10000
      ∧ (facing (.host (.memRead 0xFFFF)) State.reset).agenda = [.host (.memRead 0xFFFF)]
      ∧ (facing (.host (.memWrite 0x10000 7)) State.reset).agenda = [.host (.memWrite 0x10000 7)] := by
  refine ⟨rfl, rfl, ?_, ?_, rfl, rfl⟩ <;> decide

/-- The opcodes beside the table's rows, and a word with an assigned opcode that matches no row. -/
theorem witness_IllegalWordFaults :
    (∀ w ∈ [0x0A000000#32, 0x14000000#32, 0x23000000#32, 0x61000000#32, 0xFFFFFFFF#32],
      (w.extractLsb' 24 8).toNat ∉ assignedOps)
      ∧ flight.busy = true ∧ (∀ r ∈ opcodeRows, { flight with cmd := 1 }.cmd &&& r.mask ≠ r.pattern)
      ∧ (facing .engine { flight with cmd := 1 }).agenda = [.engine]
      ∧ (⟨0x10000000, 0xFF000FFF⟩ ∈ opcodeRows ∧ (0x10123001#32).extractLsb' 24 8 = (0x10000000#32).extractLsb' 24 8
        ∧ (0x10123001#32 &&& 0xFF000FFF#32).extractLsb' 0 24 ≠ 0#24)
      ∧ State.reset.busy = false ∧ State.reset.err = false := by
  refine ⟨by simp [assignedOps], rfl, by decide +kernel, rfl, by decide +kernel, rfl, rfl⟩

theorem witness_EncodeOfDecodeIsTheWord : decode 0x51012340 = some (.buildsys 0 1 2 3 4) := by decide

theorem witness_StepRunsTheDecodedCommand :
    { flight with cmd := 0x01F000FF }.busy = true ∧ decode { flight with cmd := 0x01F000FF }.cmd = some (.gli 15 0xFF)
      ∧ (facing .engine { flight with cmd := 0x01F000FF }).agenda = [.engine] ∧ flight.agenda = [] := by
  refine ⟨rfl, ?_, rfl, rfl⟩; decide

theorem witness_IdleEngineKeepsAllState :
    State.reset.busy = false ∧ State.reset.agenda = [] ∧ (facing .engine State.reset).agenda = [.engine] := ⟨rfl, rfl, rfl⟩

/-- The first and the last illegal word with opcode 00. -/
theorem witness_NopOnlyCompletes :
    (0x00000001#32).extractLsb' 24 8 = 0x00#8 ∧ 0x00000001#32 ≠ 0#32 ∧ (0x00FFFFFF#32).extractLsb' 24 8 = 0x00#8
      ∧ 0x00FFFFFF#32 ≠ 0#32 := by decide

/-- The last address of OMEM, the first beyond it, and the largest sum. -/
theorem witness_ByteLoadAndStore :
    baseOf (flight.writeP 0 0xFFFF) 0 + (0x000#12).toNat < flight.params.omemSize
      ∧ flight.params.omemSize ≤ baseOf (flight.writeP 0 0xFFFF) 0 + (0x001#12).toNat
      ∧ flight.params.omemSize ≤ baseOf (flight.writeP 0 0xFFFFFFFF) 0 + (0xFFF#12).toNat := by
  refine ⟨?_, ?_, ?_⟩ <;> decide +kernel

/-- The ends of the range, and the indices beside it. -/
theorem witness_CsrwWritesShapeRegistersOnly :
    (∀ c ∈ [0x06#8, 0x0C#8], 0x06 ≤ c.toNat ∧ c.toNat ≤ 0x0C)
      ∧ (∀ c ∈ [0x05#8, 0x0D#8, 0x00#8, 0xFF#8], ¬ (0x06 ≤ c.toNat ∧ c.toNat ≤ 0x0C))
      ∧ 0x07#8 ≠ 0x06#8 ∧ 0x06 ≤ (0x07#8).toNat ∧ (0x07#8).toNat ≤ 0x0C := by decide

theorem witness_FieldMultiplicationLaws : fmul 0x00 0xAB = 0x00 ∧ fmul 0xAB 0x00 = 0x00 := by decide +kernel

theorem witness_FieldInverseIsUnique :
    (0x53 : Byte) ≠ 0x00 ∧ fmul 0x53 0x8C = 0x01 ∧ (0xFF : Byte) ≠ 0x00 ∧ fmul 0xFF 0xFD = 0x01 := by decide +kernel

theorem witness_FieldInverseCommand :
    flight.readG 1 = 0x00 ∧ (flight.writeG 2 0x53).readG 2 ≠ 0x00 ∧ fmul ((flight.writeG 2 0x53).readG 2) 0x8C = 0x01 := by
  decide +kernel

/-- No rows; no columns; a vector that ends one byte beyond OMEM; one that ends with OMEM. -/
theorem witness_MatrixVectorCommand :
    { linear with laRows := 0 }.laRows.toNat = 0 ∧ { linear with laCols := 0 }.laCols.toNat = 0
      ∧ 1 ≤ linear.laRows.toNat ∧ 1 ≤ linear.laCols.toNat
      ∧ ¬ Fits (linear.writeP 2 0xFFFE) 2 3 ∧ Fits (linear.writeP 2 0xFFFD) 2 3 ∧ Fits linear 1 (3 * 3) ∧ Fits linear 3 3 := by
  unfold Fits; decide +kernel

/-- Not square; a matrix one byte beyond OMEM; one that ends with OMEM; singular; invertible. -/
theorem witness_MatrixInverseCommand :
    ¬ (1 ≤ linear.laRows.toNat ∧ { linear with laCols := 2 }.laCols.toNat = linear.laRows.toNat)
      ∧ (1 ≤ linear.laRows.toNat ∧ linear.laCols.toNat = linear.laRows.toNat)
      ∧ ¬ Fits (linear.writeP 3 0xFFF8) 3 (3 * 3) ∧ Fits (linear.writeP 3 0xFFF7) 3 (3 * 3)
      ∧ Fits linear 1 (3 * 3) ∧ Fits linear 4 (3 * 3) ∧ Fits linear 3 (3 * 3)
      ∧ minv 3 (matOn linear (baseOf linear 4) 3) = none
      ∧ minv 3 (matOn linear (baseOf linear 1) 3) = some [[0x6D, 0x91, 0xBC], [0x98, 0x36, 0x1B], [0xC2, 0x1B, 0x83]] := by
  unfold Fits; decide +kernel

/-- As for MINV, with the right-hand side at P2. -/
theorem witness_SolveCommand :
    ¬ (1 ≤ linear.laRows.toNat ∧ { linear with laCols := 2 }.laCols.toNat = linear.laRows.toNat)
      ∧ (1 ≤ linear.laRows.toNat ∧ linear.laCols.toNat = linear.laRows.toNat)
      ∧ ¬ Fits (linear.writeP 2 0xFFFE) 2 3 ∧ Fits (linear.writeP 2 0xFFFD) 2 3
      ∧ Fits linear 1 (3 * 3) ∧ Fits linear 4 (3 * 3) ∧ Fits linear 2 3 ∧ Fits linear 3 3
      ∧ minv 3 (matOn linear (baseOf linear 4) 3) = none
      ∧ minv 3 (matOn linear (baseOf linear 1) 3) = some [[0x6D, 0x91, 0xBC], [0x98, 0x36, 0x1B], [0xC2, 0x1B, 0x83]] := by
  unfold Fits; decide +kernel

/-- The product with 00 and with 01. -/
theorem fmul_zero_one : ∀ a : Byte, fmul 0#8 a = 0#8 ∧ fmul 1#8 a = a := by decide +kernel

/-- The identity matrix of order 2 leaves every vector of length 2 as it is. -/
theorem identity_two (x : Vec) (h : x.length = 2) : matvec 2 2 [[0x01, 0x00], [0x00, 0x01]] x = x := by
  match x, h with
  | [a, b], _ =>
    obtain ⟨a0, a1⟩ := fmul_zero_one a
    obtain ⟨b0, b1⟩ := fmul_zero_one b
    simp [matvec, vecOf, xorUpTo, matAt, matRow, vecAt, List.range_succ, a0, a1, b0, b1]

theorem witness_MinvIsTheTwoSidedInverse :
    minv 2 (matOf 2 2 (fun i j => if i = j then 1#8 else 0#8)) = some [[0x01, 0x00], [0x00, 0x01]]
      ∧ ∀ x : Vec, x.length = 2 → matvec 2 2 [[0x01, 0x00], [0x00, 0x01]]
        (matvec 2 2 (matOf 2 2 (fun i j => if i = j then 1#8 else 0#8)) x) = x := by
  refine ⟨by decide +kernel, fun x h => ?_⟩
  have e : matOf 2 2 (fun i j => if i = j then 0x01#8 else 0x00#8) = [[0x01, 0x00], [0x00, 0x01]] := by decide +kernel
  rw [e, identity_two x h, identity_two x h]

/-- Both sides of the equivalence happen: a singular and an invertible matrix. -/
theorem witness_SingularExactlyWhenNoInverse :
    minv 2 (matOf 2 2 (fun _ _ => 0x00)) = none ∧ (minv 2 (matOf 2 2 (fun i j => if i = j then 1#8 else 0#8))).isSome := by
  decide +kernel

/-- m = 0; a map that ends one byte beyond OMEM; one that ends with OMEM, with too few bytes offered, and with enough. -/
theorem witness_GenerateCommand :
    ¬ DimOK { uov with dimM := 0 } ∧ DimOK uov ∧ uov.dimM.toNat * pszOf uov = 10
      ∧ ¬ Fits (uov.writeP 0 0xFFF7) 0 10 ∧ Fits (uov.writeP 0 0xFFF6) 0 10
      ∧ { uov with rng := rec10.take 9 }.rng.length < 10 ∧ 10 ≤ { uov with rng := rec10 }.rng.length := by
  unfold DimOK Fits; decide +kernel

theorem witness_EvaluateCommand :
    ¬ DimOK { uov with dimV := 0 } ∧ DimOK uov ∧ pszOf uov = 10 ∧ ¬ Fits (uov.writeP 1 0xFFF7) 1 10
      ∧ Fits (uov.writeP 1 0xFFF6) 1 10 ∧ Fits uov 1 10 ∧ Fits uov 5 3 := by
  unfold DimOK Fits; decide +kernel

theorem witness_EvaluateAllCommand :
    ¬ DimOK { uov with dimN := 2 } ∧ DimOK uov ∧ uov.dimM.toNat * pszOf uov = 10 ∧ ¬ Fits (uov.writeP 0 0x10000) 0 1
      ∧ Fits (uov.writeP 0 0xFFFF) 0 1 ∧ Fits uov 1 10 ∧ Fits uov 5 3 ∧ Fits uov 0 1 := by
  unfold DimOK Fits; decide +kernel

theorem witness_AffineInTheOilVariables :
    2 ≤ 3 ∧ ([0x10, 0x20] : Vec).length = 2 ∧ ([0xE3] : Vec).length = 3 - 2 := by decide

theorem witness_SystemSolutionsHitTheTarget :
    3 = 2 + 1 ∧ [polyOfBytes 3 2 rec10].length = 1 ∧ ([0x77] : Vec).length = 1 ∧ ([0x10, 0x20] : Vec).length = 2
      ∧ ([0xE3] : Vec).length = 1 := by decide

/-- The second T of 95 section 3.4 is the first invertible one: INF, and the smallest budget that allows it. -/
theorem witness_KeygenWritesTheFirstInvertibleKey :
    DimOK (keys keyBytes) ∧ KeygenFits (keys keyBytes) 0 1 2 ∧ (keys keyBytes).params.keygenBudget = none
      ∧ (keys keyBytes).dimM.toNat * pszOf (keys keyBytes) + (1 + 1) * (2 * 2) ≤ (keys keyBytes).rng.length
      ∧ (∀ j, j < 1 → minv 2 (candidateT (keys keyBytes) j) = none)
      ∧ minv 2 (candidateT (keys keyBytes) 1) = some [[0x01, 0x03], [0x01, 0x02]] ∧ 1 < 2 := by
  unfold DimOK KeygenFits Fits; decide +kernel

/-- The keys with a budget of 1. -/
def keysOne : State := { keys keyBytes with params := { Params.standard with keygenBudget := some 1 } }

theorem witness_KeygenBudgetExhaustion :
    DimOK keysOne ∧ KeygenFits keysOne 0 1 2 ∧ keysOne.params.keygenBudget = some 1
      ∧ keysOne.dimM.toNat * pszOf keysOne + 1 * (2 * 2) ≤ keysOne.rng.length
      ∧ (∀ j, j < 1 → minv 2 (candidateT keysOne j) = none) := by
  unfold DimOK KeygenFits Fits; decide +kernel

/-- n - v /= m; T inverse one byte beyond OMEM, and ending with it. -/
theorem witness_KeygenEntryChecks :
    ¬ DimOK { keys [] with dimM := 2 } ∧ DimOK (keys []) ∧ ¬ KeygenFits ((keys []).writeP 2 0xFFFD) 0 1 2
      ∧ KeygenFits ((keys []).writeP 2 0xFFFC) 0 1 2 := by
  unfold DimOK KeygenFits Fits; decide +kernel

/-- KEYGEN with one singular candidate and three bytes of a second one, with INF and with the budget that these bytes
just do not reach; with too few bytes for F; and SIGN with one singular system and one byte of a second vinegar vector. -/
theorem witness_ShortOfRngBytesStaysInFlight :
    (DimOK (keys (keyBytes.take 12)) ∧ KeygenFits (keys (keyBytes.take 12)) 0 1 2
      ∧ (keys (keyBytes.take 12)).params.keygenBudget = none
      ∧ (∀ a, (keys (keyBytes.take 12)).dimM.toNat * pszOf (keys (keyBytes.take 12))
          + (a + 1) * ((keys (keyBytes.take 12)).dimN.toNat * (keys (keyBytes.take 12)).dimN.toNat)
            ≤ (keys (keyBytes.take 12)).rng.length →
        minv (keys (keyBytes.take 12)).dimN.toNat (candidateT (keys (keyBytes.take 12)) a) = none)
      ∧ 5 + 1 * 4 ≤ (keys (keyBytes.take 12)).rng.length ∧ (keys (keyBytes.take 12)).rng.length < 5 + (1 + 1) * 4
      ∧ (keys (keyBytes.take 4)).rng.length < 5)
    ∧ (DimOK { uov with rng := [0x00, 0x8D, 0x10] } ∧ uov.tgtLen = uov.dimM ∧ SignFits uov 0 1 2 3
      ∧ { uov with rng := [0x00, 0x8D, 0x10] }.rng.length < 1000 * uov.dimV.toNat
      ∧ ∀ a, (a + 1) * uov.dimV.toNat ≤ { uov with rng := [0x00, 0x8D, 0x10] }.rng.length →
        minv uov.dimM.toNat (attemptMat { uov with rng := [0x00, 0x8D, 0x10] } 1 a) = none)
    ∧ (facing (.rngByte 0x10) uov).agenda = [.rngByte 0x10] := by
  refine ⟨⟨by unfold DimOK; decide +kernel, by unfold KeygenFits Fits; decide +kernel, rfl, fun a h => ?_,
    by decide +kernel, by decide +kernel, by decide +kernel⟩,
    ⟨by unfold DimOK; decide +kernel, rfl, by unfold SignFits Fits; decide +kernel, by decide +kernel, fun a h => ?_⟩, rfl⟩
  · have h' : 5 + (a + 1) * 4 ≤ 12 := h
    obtain rfl : a = 0 := by omega
    decide +kernel
  · have h' : (a + 1) * 2 ≤ 3 := h
    obtain rfl : a = 0 := by omega
    decide +kernel

/-- The keys after their KEYGEN. -/
theorem witness_CompletedKeygenLeavesAnInversePair :
    (keys keyBytes).busy = true ∧ (keys keyBytes).err = false
      ∧ (∃ t, exec (.keygen 0 1 2) (keys keyBytes) = .next t ∧ (!t.busy && !t.err) = true)
      ∧ Apart (baseOf (keys keyBytes) 1) (2 * 2) (baseOf (keys keyBytes) 2) (2 * 2)
      ∧ ([0xAB, 0xCD] : Vec).length = 2 :=
  ⟨rfl, rfl, next_with _ (by decide +kernel), by unfold Apart; decide +kernel, rfl⟩

theorem witness_DrawVinegarCommand :
    ¬ DimOK { uov with dimV := 3, dimM := 0 } ∧ DimOK uov ∧ ¬ Fits (uov.writeP 0 0xFFFF) 0 uov.dimV.toNat
      ∧ Fits (uov.writeP 0 0xFFFE) 0 uov.dimV.toNat ∧ { uov with rng := [1] }.rng.length < uov.dimV.toNat
      ∧ uov.dimV.toNat ≤ { uov with rng := [1, 2] }.rng.length := by
  unfold DimOK Fits; decide +kernel

theorem witness_BuildSystemCommand :
    ¬ DimOK { uov with dimM := 2 } ∧ DimOK uov ∧ { uov with tgtLen := 0 }.tgtLen ≠ uov.dimM ∧ uov.tgtLen = uov.dimM
      ∧ ¬ Fits (uov.writeP 3 0x10000) 3 1 ∧ Fits (uov.writeP 3 0xFFFF) 3 1
      ∧ uov.dimM.toNat * pszOf uov = 10 ∧ Fits uov 1 10 ∧ Fits uov 5 2 ∧ Fits uov 3 1 ∧ Fits uov 0 (1 * 1) ∧ Fits uov 6 1 := by
  unfold DimOK Fits; decide +kernel

/-- The second row of 95 section 3.5: one singular system, then a solvable one. -/
theorem witness_SignWritesTheSignature :
    DimOK { uov with rng := [0x00, 0x8D, 0x10, 0x20] } ∧ uov.tgtLen = uov.dimM ∧ SignFits uov 0 1 2 3 ∧ 1 < 1000
      ∧ (1 + 1) * uov.dimV.toNat ≤ { uov with rng := [0x00, 0x8D, 0x10, 0x20] }.rng.length
      ∧ (∀ j, j < 1 → minv 1 (attemptMat { uov with rng := [0x00, 0x8D, 0x10, 0x20] } 1 j) = none)
      ∧ minv 1 (attemptMat { uov with rng := [0x00, 0x8D, 0x10, 0x20] } 1 1) = some [[0xDC]] := by
  unfold DimOK SignFits Fits; decide +kernel

/-- A central map whose systems are all singular, and 1000 vinegar vectors of zeros. -/
def hopeless : State := { put 0x40 recSingular uov with rng := List.replicate 2000 0x00 }

theorem hopeless_rng (k : Nat) : hopeless.rng.getD k 0x00 = 0x00 := by
  have h : hopeless.rng = List.replicate 2000 0x00 := rfl
  rw [h, List.getD_eq_getElem?_getD, List.getElem?_replicate]
  split <;> rfl

theorem hopeless_attempt (j : Nat) : attemptMat hopeless 1 j = [[0x00]] := by
  have h : vinegarOf hopeless j = fun _ => 0x00#8 := funext fun k => hopeless_rng _
  unfold attemptMat
  rw [h]
  decide +kernel

theorem witness_SignExhaustsAfterThousandAttempts :
    DimOK hopeless ∧ hopeless.tgtLen = hopeless.dimM ∧ SignFits hopeless 0 1 2 3
      ∧ 1000 * hopeless.dimV.toNat ≤ hopeless.rng.length
      ∧ ∀ j, j < 1000 → minv hopeless.dimM.toNat (attemptMat hopeless 1 j) = none := by
  refine ⟨by unfold DimOK; decide +kernel, rfl, by unfold SignFits Fits; decide +kernel, ?_, fun j _ => ?_⟩
  · have h : hopeless.rng.length = 2000 := List.length_replicate
    rw [h]; decide +kernel
  · rw [hopeless_attempt]; decide +kernel

/-- The three errors of the entry checks, the range error one byte beyond OMEM. -/
theorem witness_SignEntryChecks :
    ¬ DimOK { uov with dimM := 0 } ∧ (DimOK { uov with tgtLen := 0 } ∧ { uov with tgtLen := 0 }.tgtLen ≠ uov.dimM)
      ∧ DimOK (uov.writeP 0 0xFFFE) ∧ uov.tgtLen = uov.dimM ∧ ¬ SignFits (uov.writeP 0 0xFFFE) 0 1 2 3
      ∧ SignFits (uov.writeP 0 0xFFFD) 0 1 2 3 := by
  unfold DimOK SignFits Fits; decide +kernel

theorem witness_SignTerminatesWithinItsBudget :
    DimOK hopeless ∧ hopeless.tgtLen = hopeless.dimM ∧ SignFits hopeless 0 1 2 3
      ∧ 1000 * hopeless.dimV.toNat ≤ hopeless.rng.length :=
  let h := witness_SignExhaustsAfterThousandAttempts
  ⟨h.1, h.2.1, h.2.2.1, h.2.2.2.1⟩

/-- Each arrow of R191 has a run that takes it: a draw, a build, a success, a retry, a failure, and a next attempt. -/
theorem witness_SignerStateMachineArrows :
    (∀ c ∈ [(Phase.drawVinegar, 1, [[0x99]], Phase.buildSystem), (.buildSystem, 1, [[0x99]], .solve),
        (.solve, 1000, [[0x99]], .success), (.solve, 999, [[0x00]], .retry), (.solve, 1000, [[0x00]], .failure),
        (.retry, 999, [[0x00]], .drawVinegar)],
      (signNext 2 1 [polyOfBytes 3 2 rec10] [0x77]
        { State.reset.signStart with phase := c.1, attempt := c.2.1, a := c.2.2.1, rng := [0x10, 0x20] }).map SignRun.phase
        = some c.2.2.2) ∧ 0 ≤ 1 := by decide +kernel

/-- A SIGN and a KEYGEN in flight, whose entry checks pass, or fail. -/
theorem witness_progress_in_SignerStateMachineArrows :
    uov.busy = true ∧ decode uov.cmd = some (.sign 0 1 2 3) ∧ (facing .progress uov).agenda = [.progress]
      ∧ (DimOK uov ∧ uov.tgtLen = uov.dimM ∧ SignFits uov 0 1 2 3) ∧ ¬ DimOK { uov with dimM := 0 }
      ∧ (keys []).busy = true ∧ decode (keys []).cmd = some (.keygen 0 1 2) ∧ (DimOK (keys []) ∧ KeygenFits (keys []) 0 1 2)
      ∧ ¬ DimOK { keys [] with dimM := 0 } := by
  refine ⟨rfl, by decide +kernel, rfl, ?_, ?_, rfl, by decide +kernel, ?_, ?_⟩ <;>
    (unfold DimOK; (try unfold SignFits); (try unfold KeygenFits); (try unfold Fits); decide +kernel)

theorem witness_VerifyCommand :
    ¬ DimOK { uov with dimM := 0 } ∧ DimOK uov ∧ { uov with sigLen := 2 }.sigLen ≠ uov.dimN
      ∧ (uov.sigLen = uov.dimN ∧ uov.tgtLen = uov.dimM) ∧ ¬ Fits (uov.writeP 0 0xFFFE) 0 3 ∧ Fits (uov.writeP 0 0xFFFD) 0 3
      ∧ Fits uov 1 (uov.dimM.toNat * pszOf uov) ∧ Fits uov 4 (3 * 3) ∧ Fits uov 3 1 ∧ Fits uov 0 3 := by
  unfold DimOK Fits; decide +kernel

/-- A SIGN with n = 2 and with the identity matrix for T and for its inverse. -/
def signIdentity : State :=
  put 0x90 [0x01, 0x00, 0x00, 0x01] (put 0x50 [0x01, 0x00, 0x00, 0x01] (put 0x40 [0x02, 0x03, 0x04, 0x05, 0x06]
    { uov with dimN := 2, dimV := 1, rng := [0x07] }))

theorem witness_SignatureOfACompletedSignVerifies :
    signIdentity.busy = true ∧ signIdentity.err = false
      ∧ (∃ t, exec (.sign 0 1 2 3) signIdentity = .next t ∧ (!t.busy && !t.err) = true)
      ∧ Fits signIdentity 4 (2 * 2)
      ∧ (∀ x : Vec, x.length = 2 → matvec 2 2 (matOn signIdentity (baseOf signIdentity 4) 2)
        (matvec 2 2 (matOn signIdentity (baseOf signIdentity 2) 2) x) = x)
      ∧ Apart (baseOf signIdentity 0) 2 (baseOf signIdentity 1) (1 * pszOf signIdentity)
      ∧ Apart (baseOf signIdentity 0) 2 (baseOf signIdentity 4) (2 * 2)
      ∧ Apart (baseOf signIdentity 0) 2 (baseOf signIdentity 3) 1 := by
  refine ⟨rfl, rfl, next_with _ (by decide +kernel), by unfold Fits; decide +kernel, fun x h => ?_,
    by unfold Apart; decide +kernel, by unfold Apart; decide +kernel, by unfold Apart; decide +kernel⟩
  have e1 : matOn signIdentity (baseOf signIdentity 4) 2 = [[0x01, 0x00], [0x00, 0x01]] := by decide +kernel
  have e2 : matOn signIdentity (baseOf signIdentity 2) 2 = [[0x01, 0x00], [0x00, 0x01]] := by decide +kernel
  rw [e1, e2, identity_two x h, identity_two x h]

/-- A command that is none of CSRW, SIGN, KEYGEN, VERIFY, and its next state. -/
theorem witness_CommandsWriteOnlyTheirOwnCsrs :
    (∃ t, exec (.gli 15 0xFF) flight = .next t) ∧ (∀ c x, (.gli 15 0xFF : Instr) ≠ .csrw c x)
      ∧ (∀ a b c d, (.gli 15 0xFF : Instr) ≠ .sign a b c d) ∧ (∀ a b c, (.gli 15 0xFF : Instr) ≠ .keygen a b c)
      ∧ ∀ a b c d, (.gli 15 0xFF : Instr) ≠ .verify a b c d :=
  ⟨⟨_, rfl⟩, nofun, nofun, nofun, nofun⟩

/-- FINV of 0 faults. -/
theorem witness_FaultsArePrecise :
    (∃ t, exec (.finv 10 8) flight = .next t ∧ t.err = true) ∧ flight.err = false
      ∧ (∀ a b c, (.finv 10 8 : Instr) ≠ .keygen a b c) ∧ (∀ a b c d, (.finv 10 8 : Instr) ≠ .sign a b c d)
      ∧ ∀ a b c d, (.finv 10 8 : Instr) ≠ .verify a b c d :=
  ⟨next_with _ (by decide +kernel), rfl, nofun, nofun, nofun⟩

/-- An agenda that begins with no bus access, and the empty one. -/
theorem witness_EveryCommandAndEventAnswersANextState :
    (∀ a rest, (facing .engine flight).agenda ≠ .bus a :: rest) ∧ ∀ a rest, flight.agenda ≠ .bus a :: rest := by
  constructor <;> intro a rest h <;> simp [facing, flight, State.reset, State.resetWith] at h

theorem witness_OnlyFourCommandsDraw :
    (∃ t, exec .nop flight = .next t) ∧ (∀ a, (.nop : Instr) ≠ .fgen a) ∧ (∀ a b c, (.nop : Instr) ≠ .keygen a b c)
      ∧ (∀ a, (.nop : Instr) ≠ .drawv a) ∧ ∀ a b c d, (.nop : Instr) ≠ .sign a b c d :=
  ⟨⟨_, rfl⟩, nofun, nofun, nofun, nofun⟩

/-- The invariant of a state with a command in flight and a byte in OMEM, and of the error state. -/
theorem witness_EveryStepKeepsTheInvariant :
    (put 0xFFFF [0xAB] flight).Inv ∧ (∃ t, step (put 0xFFFF [0xAB] flight) = .next t) ∧ failed.Inv := by
  refine ⟨⟨by decide +kernel, ?_, fun _ => rfl, fun _ => rfl, fun _ => ⟨rfl, rfl⟩, nofun, nofun⟩, ⟨_, rfl⟩,
    ⟨rfl, nofun, nofun, nofun, nofun, fun _ => ⟨rfl, by decide, by decide⟩, fun _ => rfl⟩⟩
  intro a b h
  have h' : (put 0xFFFF [0xAB] flight).omem = [(0xFFFF, 0xAB)] := rfl
  rw [h'] at h
  obtain ⟨rfl, -⟩ : a = 0xFFFF ∧ b = 0xAB := by simpa using h
  decide +kernel

/-- The largest immediate whose PLUI is omitted, and the smallest whose PLUI is not. -/
theorem witness_PseudoInstructionsExpandRight :
    (0x0000FFFF#32).extractLsb' 16 16 = 0#16 ∧ (0x00010000#32).extractLsb' 16 16 ≠ 0#16 := by decide

/-- CSR 0xFF; a byte in the CSR window, and a half word that begins one byte below the window and one that ends with it;
the last word of OMEM; and a word that reaches one byte beyond OMEM. -/
theorem witness_PlatformBusMapsTheTwoSpaces :
    (facing (.bus ⟨0x3FC, .word, none⟩) State.reset).agenda = [.bus ⟨0x3FC, .word, none⟩]
      ∧ 0x3FC = Params.standard.hostBase + 4 * (0xFF#8).toNat
      ∧ (¬ MissesCsrs Params.standard 0x3FF 1 ∧ ∀ idx : BitVec 8, ¬ (BusWidth.byte = .word ∧ 0x3FF = 0 + 4 * idx.toNat))
      ∧ ¬ MissesCsrs { Params.standard with hostBase := 0x1000 } 0xFFF 2
      ∧ MissesCsrs { Params.standard with hostBase := 0x1000 } 0xFFE 2
      ∧ MissesCsrs Params.standard 0x103FC 4 ∧ 0x103FC = Params.standard.omemWindowBase + 0xFFFC
      ∧ 0xFFFC + 4 ≤ Params.standard.omemSize ∧ State.reset.busy = false
      ∧ MissesCsrs Params.standard 0x103FD 4
      ∧ ¬ (Params.standard.omemWindowBase ≤ 0x103FD
        ∧ 0x103FD + 4 ≤ Params.standard.omemWindowBase + Params.standard.omemSize) := by
  unfold MissesCsrs; decide +kernel

end Sys2Proof.Tests
end

/-! PROOFS of the statements about the state, the CSRs, the resets and the invariant (10_state). -/
namespace Sys2Proof.Machine

/-! ## What every command can do

One structure says what a command may have written by the time it ends or waits, one inductive says how it ends or
waits, and `exec_answers` says that every command does just that. The statements about the commands as a whole follow
from it without another walk through the 25 meanings. -/

/-! ### OMEM inside its size -/

/-- The canonical form, with every address below `size` (20_memory R60). -/
def Memory.Within (size : Nat) (m : Memory) : Prop := Memory.wf m = true ∧ ∀ a b, (a, b) ∈ m → a < size

theorem Memory.within_nil (size : Nat) : Memory.Within size [] := ⟨rfl, nofun⟩

/-- Bytes written below `size` leave OMEM canonical and inside its size. -/
theorem Memory.Within.storeAll {size base : Nat} {m : Memory} {bs : List Byte} (h : Memory.Within size m)
    (hb : base + bs.length ≤ size) : Memory.Within size (Memory.storeAll m base bs) := by
  obtain ⟨hwf, hin⟩ := h
  refine ⟨storeAll_wf bs m base hwf, fun a b hab => ?_⟩
  rcases mem_storeAll hab with ⟨-, hlt⟩ | hold
  · exact lt_of_lt_of_le hlt hb
  · exact hin a b hold

/-! ### The state a command works towards -/

/-- The flags of a command's life cycle are unchanged. -/
def SameLife (s u : State) : Prop :=
  u.busy = s.busy ∧ u.done = s.done ∧ u.err = s.err ∧ u.errcode = s.errcode ∧ u.errinfo = s.errinfo

/-- What the command `i`, run from `s`, may have written before it ends: never what `SameOuter` lists nor the flags of
its life cycle, OMEM only below OMEM_SIZE, and of the CSRs only its own (10_state R30). -/
structure Works (i : Instr) (s u : State) : Prop where
  outer : SameOuter s u
  life : SameLife s u
  omem : Memory.Within s.params.omemSize s.omem → Memory.Within s.params.omemSize u.omem
  dims : (∀ c x, i ≠ .csrw c x) → SameDims s u ∧ u.tgtLen = s.tgtLen
  sigLen : (∀ c x, i ≠ .csrw c x) → (∀ a b c d, i ≠ .sign a b c d) → u.sigLen = s.sigLen
  attempt : (∀ a b c, i ≠ .keygen a b c) → (∀ a b c d, i ≠ .sign a b c d) → u.attempt = s.attempt
  phase : (∀ a b c d, i ≠ .sign a b c d) → u.phase = s.phase
  valid : (∀ a b c d, i ≠ .verify a b c d) → u.valid = s.valid

section Works
variable {i : Instr} {s u : State}

theorem Works.refl (i : Instr) (s : State) : Works i s s where
  outer := ⟨rfl, rfl, rfl, rfl, rfl, rfl, rfl, rfl, rfl⟩
  life := ⟨rfl, rfl, rfl, rfl, rfl⟩
  omem := id
  dims _ := ⟨⟨rfl, rfl, rfl, rfl, rfl⟩, rfl⟩
  sigLen _ _ := rfl
  attempt _ _ := rfl
  phase _ := rfl
  valid _ := rfl

theorem Works.writeG (h : Works i s u) (r : GReg) (x : Byte) : Works i s (u.writeG r x) := { h with }

theorem Works.writeP (h : Works i s u) (r : PReg) (x : Word) : Works i s (u.writeP r x) := { h with }

theorem Works.setRng (h : Works i s u) (bytes : List Byte) : Works i s { u with rng := bytes } := { h with }

/-- Bytes may be written where they fit into a region that has passed its range check. -/
theorem Works.writeBytes (h : Works i s u) {base len : Nat} {bytes : List Byte} (hr : s.inRange base len = true)
    (hlen : bytes.length ≤ len) : Works i s (u.writeBytes base bytes) where
  outer := h.outer
  life := h.life
  omem hs := by
    have hfit : base + len ≤ s.params.omemSize := by simpa [State.inRange] using hr
    exact (h.omem hs).storeAll (by omega)
  dims := h.dims
  sigLen := h.sigLen
  attempt := h.attempt
  phase := h.phase
  valid := h.valid

theorem Works.setKeygenAttempt {pf pt pi : PReg} (h : Works (.keygen pf pt pi) s u) (a : Word) :
    Works (.keygen pf pt pi) s { u with attempt := a } :=
  { h with attempt := fun hk _ => (hk _ _ _ rfl).elim }

theorem Works.setSignResults {ps pf pi pt : PReg} (h : Works (.sign ps pf pi pt) s u) (a : Word) (ph : Phase)
    (len : BitVec 8) : Works (.sign ps pf pi pt) s { u with attempt := a, phase := ph, sigLen := len } :=
  { h with
    attempt := fun _ hs => (hs _ _ _ _ rfl).elim
    phase := fun hs => (hs _ _ _ _ rfl).elim
    sigLen := fun _ hs => (hs _ _ _ _ rfl).elim }

theorem Works.setValid {pf pm pt ps : PReg} (h : Works (.verify pf pm pt ps) s u) (b : Bool) :
    Works (.verify pf pm pt ps) s { u with valid := b } :=
  { h with valid := fun hv => (hv _ _ _ _ rfl).elim }

/-- A plain CSR write, whatever its CSR, is within what CSRW may do. -/
theorem Works.writePlainCsr (csr : BitVec 8) (imm : BitVec 16) (c : Csr) (w : Word) (s : State) :
    Works (.csrw csr imm) s (writePlainCsr c w s) where
  outer := by cases c <;> exact (Works.refl .nop s).outer
  life := by cases c <;> exact (Works.refl .nop s).life
  omem := by cases c <;> exact id
  dims h := (h _ _ rfl).elim
  sigLen h := (h _ _ rfl).elim
  attempt _ _ := by cases c <;> rfl
  phase _ := by cases c <;> rfl
  valid _ := by cases c <;> rfl

end Works

/-! ### How a command ends or waits -/

/-- The three ways a turn of the engine leaves the command whose working state is `u`: completed (60 R263), ended by an
error (60 R270), or still in flight with some progress (10_state R47). -/
inductive Leaves (u : State) : State → Prop where
  | complete : Leaves u (completeCommand u)
  | fault (e : ErrorKind) : Leaves u (raiseError e u)
  | wait (k : Nat) : Leaves u { u with progress := k }

/-- The outcome is a next state, and it is reached from a working state of the command. -/
def Answers (i : Instr) (s : State) (out : Out) : Prop := ∃ u t, out = .next t ∧ Works i s u ∧ Leaves u t

section Answers
variable {i : Instr} {s u : State}

theorem Works.answers_complete (h : Works i s u) : Answers i s (.next (completeCommand u)) :=
  ⟨u, _, rfl, h, .complete⟩

theorem Works.answers_fault (h : Works i s u) (e : ErrorKind) : Answers i s (.next (raiseError e u)) :=
  ⟨u, _, rfl, h, .fault e⟩

theorem Works.answers_wait (h : Works i s u) (k : Nat) : Answers i s (.next { u with progress := k }) :=
  ⟨u, _, rfl, h, .wait k⟩

theorem Works.answers_stay (h : Works i s u) : Answers i s (.next u) := h.answers_wait u.progress

/-- A guarded command faults in its working state, or its body answers, knowing that every check has passed. -/
theorem Works.answers_withChecks (h : Works i s u) {checks : List (Bool × ErrorKind)} {body : Out}
    (hbody : (∀ c ∈ checks, c.1 = true) → Answers i s body) : Answers i s (withChecks checks u body) := by
  rcases withChecks_cases checks u body with ⟨e, -, heq⟩ | ⟨hnone, heq⟩
  · rw [heq]; exact h.answers_fault e
  · rw [heq]; exact hbody ((firstError_eq_none checks).1 hnone)

end Answers

/-! ### The lengths of what commands write -/

@[simp] theorem readMap_length (s : State) (r : PReg) : (s.readMap r).length = s.mDim := by
  simp [State.readMap, mapOfBytes]

@[simp] theorem evaluateAll_length (n v : Nat) (f : List Poly) (x : Vec) :
    (evaluateAll n v f x).length = f.length := by simp [evaluateAll]

theorem sysVec_length_le (v : Nat) (f : List Poly) (xv t : Vec) : (sysVec v f xv t).length ≤ f.length := by
  simp [sysVec]

@[simp] theorem signature_length (n m : Nat) (ainv : Mat) (b xv : Vec) (tinv : Mat) :
    (signature n m ainv b xv tinv).length = n := by simp [signature]

/-- A transition of R182 buffers at most the bytes of a central map. -/
theorem keyNext_fbuf_length {budget : Option Nat} {n mapSize : Nat} {r r' : KeyRun}
    (h : keyNext budget n mapSize r = some r') (hr : r.fbuf.length ≤ mapSize) : r'.fbuf.length ≤ mapSize := by
  unfold keyNext at h
  split at h
  case h_1 =>
    split at h
    · cases h; exact List.length_take_le _ _
    · cases h
  case h_3 =>
    split at h
    · cases h; exact hr
    · cases h
  case h_2 | h_4 => split at h <;> (cases h; exact hr)
  case h_5 | h_6 => cases h

theorem keyRun_fbuf_length (budget : Option Nat) (n mapSize fuel : Nat) (r : KeyRun)
    (hr : r.fbuf.length ≤ mapSize) : (keyRun budget n mapSize fuel r).fbuf.length ≤ mapSize := by
  induction fuel generalizing r with
  | zero => exact hr
  | succ k ih =>
    rw [keyRun]
    split
    · exact hr
    · next r' hnext => exact ih r' (keyNext_fbuf_length hnext hr)

theorem keyRunFor_fbuf_length (s : State) (fuel : Nat) : (s.keyRunFor fuel).fbuf.length ≤ s.mapSize :=
  keyRun_fbuf_length _ _ _ _ _ (Nat.zero_le _)

/-! ### The commands with a wait, an error of their own, or several destinations -/

section Commands
variable (s : State)

theorem fgen_answers (pf : PReg) : Answers (.fgen pf) s (execFgen pf s) := by
  refine (Works.refl _ s).answers_withChecks fun hchecks => ?_
  have hregion : s.regionOk pf s.mapSize = true := by simp at hchecks; tauto
  rcases draw_cases s s.mapSize with ⟨-, hdraw⟩ | ⟨-, hdraw⟩
  · rw [hdraw]; exact (Works.refl _ s).answers_stay
  · rw [hdraw]
    exact (((Works.refl _ s).setRng _).writeBytes hregion (by simp)).answers_complete

theorem drawv_answers (pd : PReg) : Answers (.drawv pd) s (execDrawv pd s) := by
  refine (Works.refl _ s).answers_withChecks fun hchecks => ?_
  have hregion : s.regionOk pd s.vDim = true := by simp at hchecks; tauto
  rcases draw_cases s s.vDim with ⟨-, hdraw⟩ | ⟨-, hdraw⟩
  · rw [hdraw]; exact (Works.refl _ s).answers_stay
  · rw [hdraw]
    exact (((Works.refl _ s).setRng _).writeBytes hregion (by simp)).answers_complete

theorem pevala_answers (pd pf px : PReg) : Answers (.pevala pd pf px) s (execPevala pd pf px s) := by
  refine (Works.refl _ s).answers_withChecks fun hchecks => ?_
  have hregion : s.regionOk pd s.mDim = true := by simp at hchecks; tauto
  exact ((Works.refl _ s).writeBytes hregion (by simp)).answers_complete

theorem mvmul_answers (pd pm pv : PReg) : Answers (.mvmul pd pm pv) s (execMvmul pd pm pv s) := by
  refine (Works.refl _ s).answers_withChecks fun hchecks => ?_
  have hregion : s.regionOk pd s.rows = true := by simp at hchecks; tauto
  exact ((Works.refl _ s).writeBytes hregion (by simp)).answers_complete

theorem minv_answers (pd pm : PReg) : Answers (.minv pd pm) s (execMinv pd pm s) := by
  refine (Works.refl _ s).answers_withChecks fun hchecks => ?_
  have hregion : s.regionOk pd (s.rows * s.rows) = true := by simp at hchecks; tauto
  split
  · exact (Works.refl _ s).answers_fault _
  · exact ((Works.refl _ s).writeBytes hregion (by simp)).answers_complete

theorem msolve_answers (pd pm pb : PReg) : Answers (.msolve pd pm pb) s (execMsolve pd pm pb s) := by
  refine (Works.refl _ s).answers_withChecks fun hchecks => ?_
  have hregion : s.regionOk pd s.rows = true := by simp at hchecks; tauto
  split
  · exact (Works.refl _ s).answers_fault _
  · exact ((Works.refl _ s).writeBytes hregion (by simp)).answers_complete

theorem buildsys_answers (pa pb pf px pt : PReg) :
    Answers (.buildsys pa pb pf px pt) s (execBuildsys pa pb pf px pt s) := by
  refine (Works.refl _ s).answers_withChecks fun hchecks => ?_
  have hregions : s.regionOk pa (s.mDim * s.mDim) = true ∧ s.regionOk pb s.mDim = true := by simp at hchecks; tauto
  obtain ⟨ha, hb⟩ := hregions
  have hlen := sysVec_length_le s.vDim (s.readMap pf) (s.readVec px s.vDim) (s.readVec pt s.mDim)
  exact (((Works.refl _ s).writeBytes ha (by simp)).writeBytes hb (by simpa using hlen)).answers_complete

theorem keygen_answers (pf pt pi : PReg) : Answers (.keygen pf pt pi) s (execKeygen pf pt pi s) := by
  refine ((Works.refl _ s).setKeygenAttempt 0#32).answers_withChecks fun hchecks => ?_
  have hregions : s.regionOk pf s.mapSize = true ∧ s.regionOk pt (s.nDim * s.nDim) = true
      ∧ s.regionOk pi (s.nDim * s.nDim) = true := by simp [keygenChecks] at hchecks; tauto
  obtain ⟨hf, ht, hi⟩ := hregions
  have hfbuf := keyRunFor_fbuf_length s s.keyFuel
  have hrun := (Works.refl (.keygen pf pt pi) s).setKeygenAttempt (attemptOfDraws (s.keyRunFor s.keyFuel).draws)
  dsimp only
  split
  · exact ((((hrun.setRng _).writeBytes hf hfbuf).writeBytes ht (by simp)).writeBytes hi (by simp)).answers_complete
  · exact (hrun.setRng _).answers_fault _
  all_goals exact hrun.answers_wait _

theorem sign_answers (ps pf pi pt : PReg) : Answers (.sign ps pf pi pt) s (execSign ps pf pi pt s) := by
  have hset := (Works.refl (.sign ps pf pi pt) s).setSignResults
  refine (hset 0#32 .idle s.sigLen).answers_withChecks fun hchecks => ?_
  have hregion : s.regionOk ps s.nDim = true := by simp [signChecks] at hchecks; tauto
  have hrun := hset (BitVec.ofNat 32 (s.signRunFor pf pt signFuel).attempt) (s.signRunFor pf pt signFuel).phase
  dsimp only
  split
  · exact (((hrun s.dimN).setRng _).writeBytes hregion (by simp)).answers_complete
  · exact ((hrun s.sigLen).setRng _).answers_fault _
  all_goals exact (hrun s.sigLen).answers_wait _

/-- Every command, in every state, answers a next state that it reaches by writing what it may write and then ending or
waiting. -/
theorem exec_answers (i : Instr) (s : State) : Answers i s (exec i s) := by
  have h := Works.refl i s
  cases i with
  | nop => exact h.answers_complete
  | gli gd imm8 => exact (h.writeG _ _).answers_complete
  | gmv gd ga => exact (h.writeG _ _).answers_complete
  | gld gd pa imm12 => exact h.answers_withChecks fun _ => (h.writeG _ _).answers_complete
  | gst gs pa imm12 =>
    exact h.answers_withChecks fun hchecks =>
      (h.writeBytes (by simpa using hchecks) le_rfl).answers_complete
  | pli pd imm16 => exact (h.writeP _ _).answers_complete
  | plui pd imm16 => exact (h.writeP _ _).answers_complete
  | paddi pd pa simm12 => exact (h.writeP _ _).answers_complete
  | pmv pd pa => exact (h.writeP _ _).answers_complete
  | csrw csr imm16 =>
    exact h.answers_withChecks fun _ => (Works.writePlainCsr csr imm16 _ _ s).answers_complete
  | fadd gd ga gb => exact (h.writeG _ _).answers_complete
  | fsub gd ga gb => exact (h.writeG _ _).answers_complete
  | fmul gd ga gb => exact (h.writeG _ _).answers_complete
  | finv gd ga => exact h.answers_withChecks fun _ => (h.writeG _ _).answers_complete
  | mvmul pd pm pv => exact mvmul_answers s pd pm pv
  | minv pd pm => exact minv_answers s pd pm
  | msolve pd pm pb => exact msolve_answers s pd pm pb
  | fgen pf => exact fgen_answers s pf
  | peval gd pp px => exact h.answers_withChecks fun _ => (h.writeG _ _).answers_complete
  | pevala pd pf px => exact pevala_answers s pd pf px
  | keygen pf pt pi => exact keygen_answers s pf pt pi
  | drawv pd => exact drawv_answers s pd
  | buildsys pa pb pf px pt => exact buildsys_answers s pa pb pf px pt
  | sign ps pf pi pt => exact sign_answers s ps pf pi pt
  | verify pf pm pt ps =>
    exact (h.setValid _).answers_withChecks fun _ => (h.setValid _).answers_complete

end Commands

/-- A command that gives a next state has reached it through a working state. -/
theorem exec_next {i : Instr} {s t : State} (h : exec i s = .next t) : ∃ u, Works i s u ∧ Leaves u t := by
  obtain ⟨u, t', heq, hworks, hleaves⟩ := exec_answers i s
  obtain rfl : t' = t := Host.Outcome.next.inj (heq.symm.trans h)
  exact ⟨u, hworks, hleaves⟩

/-! ## Which commands write which CSR -/

/-- However a command leaves its working state, it writes only its own CSRs. -/
theorem Works.writes_only_own_csrs {i : Instr} {s u t : State} (h : Works i s u) (hleaves : Leaves u t) :
    SameOuter s t
      ∧ ((∀ c x, i ≠ .csrw c x) → SameDims s t ∧ t.tgtLen = s.tgtLen)
      ∧ ((∀ c x, i ≠ .csrw c x) → (∀ a b c d, i ≠ .sign a b c d) → t.sigLen = s.sigLen)
      ∧ ((∀ a b c, i ≠ .keygen a b c) → (∀ a b c d, i ≠ .sign a b c d) → t.attempt = s.attempt)
      ∧ ((∀ a b c d, i ≠ .sign a b c d) → t.phase = s.phase)
      ∧ ((∀ a b c d, i ≠ .verify a b c d) → t.valid = s.valid) := by
  cases hleaves with
  | complete => exact ⟨h.outer, h.dims, h.sigLen, h.attempt, h.phase, h.valid⟩
  | fault e => exact ⟨h.outer, h.dims, h.sigLen, h.attempt, h.phase, h.valid⟩
  | wait k => exact ⟨h.outer, h.dims, h.sigLen, h.attempt, h.phase, h.valid⟩

/-- Settles O53, from what a command may have written before it ends or waits. -/
theorem commandsWriteOnlyTheirOwnCsrs : Obligations.CommandsWriteOnlyTheirOwnCsrs := by
  intro i s t hexec
  obtain ⟨u, hworks, hleaves⟩ := exec_next hexec
  exact hworks.writes_only_own_csrs hleaves

/-! ## The machine's invariant

`State.guarded` collects the fields the invariant speaks of: a transition that leaves them alone keeps the invariant by
`rfl`. The transitions that do change them are the writes of OMEM, the end of a command, acceptance, the W1C write of
`STATUS` and the resets, one lemma each. -/

/-- The fields that the invariant speaks of. -/
def State.guarded (s : State) : Nat × Memory × Bool × Bool × Bool × BitVec 4 × Word × Word × Nat :=
  (s.params.omemSize, s.omem, s.busy, s.done, s.err, s.errcode, s.errinfo, s.cmd, s.progress)

theorem State.Inv.within {s : State} (h : s.Inv) : Memory.Within s.params.omemSize s.omem :=
  ⟨h.omem_canonical, h.omem_inside⟩

/-- The invariant depends on the guarded fields only. -/
theorem State.Inv.congr {s t : State} (h : s.Inv) (heq : t.guarded = s.guarded) : t.Inv := by
  simp only [State.guarded, Prod.mk.injEq] at heq
  obtain ⟨hsize, homem, hbusy, hdone, herr, hcode, hinfo, hcmd, hprogress⟩ := heq
  exact
    { omem_canonical := by rw [homem]; exact h.omem_canonical
      omem_inside := by rw [homem, hsize]; exact h.omem_inside
      busy_not_err := by rw [hbusy, herr]; exact h.busy_not_err
      busy_not_done := by rw [hbusy, hdone]; exact h.busy_not_done
      no_error_no_code := by rw [herr, hcode, hinfo]; exact h.no_error_no_code
      error_names_command := by rw [herr, hcode, hinfo, hcmd]; exact h.error_names_command
      idle_no_progress := by rw [hbusy, hprogress]; exact h.idle_no_progress }

/-- The invariant of a state that is idle without an error. -/
theorem inv_of_idle {t : State} (homem : Memory.Within t.params.omemSize t.omem) (hbusy : t.busy = false)
    (herr : t.err = false) (hcode : t.errcode = 0#4) (hinfo : t.errinfo = 0#32) (hprogress : t.progress = 0) :
    t.Inv where
  omem_canonical := homem.1
  omem_inside := homem.2
  busy_not_err h := by simp [hbusy] at h
  busy_not_done h := by simp [hbusy] at h
  no_error_no_code _ := ⟨hcode, hinfo⟩
  error_names_command h := by simp [herr] at h
  idle_no_progress _ := hprogress

/-! ### The transitions of the engine -/

/-- The codes 0 and 9 to 15 belong to no error (60 R260). -/
theorem errorCode_range (e : ErrorKind) : 1 ≤ e.code.toNat ∧ e.code.toNat ≤ 8 := by cases e <;> decide

theorem raiseError_inv {u : State} (e : ErrorKind) (homem : Memory.Within u.params.omemSize u.omem) :
    (raiseError e u).Inv where
  omem_canonical := homem.1
  omem_inside := homem.2
  busy_not_err := nofun
  busy_not_done := nofun
  no_error_no_code := nofun
  error_names_command _ := ⟨rfl, errorCode_range e⟩
  idle_no_progress _ := rfl

/-- A command in flight that ends or waits keeps the invariant. -/
theorem Works.leaves_inv {i : Instr} {s u t : State} (h : Works i s u) (hleaves : Leaves u t) (hinv : s.Inv)
    (hbusy : s.busy = true) : t.Inv := by
  obtain ⟨hb, hd, he, hcode, hinfo⟩ := h.life
  obtain ⟨hparams, -⟩ := h.outer
  have herr : u.err = false := he.trans (hinv.busy_not_err hbusy)
  have hcodes : u.errcode = 0#4 ∧ u.errinfo = 0#32 := by
    rw [hcode, hinfo]; exact hinv.no_error_no_code (hinv.busy_not_err hbusy)
  have homem : Memory.Within u.params.omemSize u.omem := by rw [hparams]; exact h.omem hinv.within
  cases hleaves with
  | complete => exact inv_of_idle homem rfl herr hcodes.1 hcodes.2 rfl
  | fault e => exact raiseError_inv e homem
  | wait k =>
    exact
      { omem_canonical := homem.1
        omem_inside := homem.2
        busy_not_err := fun _ => herr
        busy_not_done := fun _ => hd.trans (hinv.busy_not_done hbusy)
        no_error_no_code := fun _ => hcodes
        error_names_command := fun h => absurd (h.symm.trans herr) (by decide)
        idle_no_progress := fun h => absurd (h.symm.trans (hb.trans hbusy)) (by decide) }

theorem engineTurn_inv {s t : State} (h : s.Inv) (hturn : engineTurn s = .next t) : t.Inv := by
  unfold engineTurn at hturn
  split at hturn
  next hbusy =>
    split at hturn
    · obtain ⟨u, hworks, hleaves⟩ := exec_next hturn
      exact hworks.leaves_inv hleaves h hbusy
    · cases hturn
      exact raiseError_inv _ h.within
  next => cases hturn; exact h

/-- While BUSY the progress index, `PHASE` and `ATTEMPT` may take any value. -/
theorem State.Inv.setProgress {s : State} (h : s.Inv) (hbusy : s.busy = true) (ph : Phase) (a : Word) (k : Nat) :
    State.Inv { s with phase := ph, attempt := a, progress := k } :=
  { omem_canonical := h.omem_canonical
    omem_inside := h.omem_inside
    busy_not_err := h.busy_not_err
    busy_not_done := h.busy_not_done
    no_error_no_code := h.no_error_no_code
    error_names_command := h.error_names_command
    idle_no_progress := fun hidle => absurd (hidle.symm.trans hbusy) (by decide) }

/-- A passed point of the command in flight changes at most `PHASE`, `ATTEMPT` and the progress index, and only while
BUSY (44 R197). -/
theorem engineProgress_cases (s : State) :
    engineProgress s = s
      ∨ s.busy = true ∧ ∃ ph a k, engineProgress s = { s with phase := ph, attempt := a, progress := k } := by
  unfold engineProgress
  split
  next hbusy =>
    split
    · unfold signProgress
      split
      · exact .inl rfl
      · dsimp only
        split
        · exact .inl rfl
        all_goals exact .inr ⟨hbusy, _, _, _, rfl⟩
    · unfold keygenProgress
      split
      · exact .inl rfl
      · dsimp only
        split
        case h_1 | h_2 => exact .inl rfl
        all_goals exact .inr ⟨hbusy, s.phase, _, _, rfl⟩
    · exact .inl rfl
  next => exact .inl rfl

theorem engineProgress_inv {s : State} (h : s.Inv) : (engineProgress s).Inv := by
  rcases engineProgress_cases s with heq | ⟨hbusy, ph, a, k, heq⟩
  · rw [heq]; exact h
  · rw [heq]; exact h.setProgress hbusy ph a k

/-! ### The two resets -/

/-- The reset values keep the invariant over whatever OMEM holds. -/
theorem resetRegisters_inv {u : State} (h : Memory.Within u.params.omemSize u.omem) : u.resetRegisters.Inv :=
  inv_of_idle h rfl rfl rfl rfl rfl

theorem hardwareReset_inv (s : State) : (hardwareReset s).Inv :=
  inv_of_idle (Memory.within_nil _) rfl rfl rfl rfl rfl

/-- Unspecified bytes are written only where OMEM exists (93 U3). -/
theorem clobber_within {u : State} (q : Nat × Nat) (h : Memory.Within u.params.omemSize u.omem) :
    Memory.Within u.params.omemSize (u.clobber q).omem := by
  by_cases hin : q.1 ≤ u.params.omemSize
  · exact h.storeAll (by simp; omega)
  · have hlen : min q.2 (u.params.omemSize - q.1) = 0 := by omega
    simpa [State.clobber, hlen, Memory.storeAll] using h

theorem clobberAll_within (regions : List (Nat × Nat)) {u : State} (h : Memory.Within u.params.omemSize u.omem) :
    Memory.Within u.params.omemSize (u.clobberAll regions).omem := by
  induction regions generalizing u with
  | nil => exact h
  | cons q rest ih => exact ih (u := u.clobber q) (clobber_within q h)

/-- What abandoning a command may change: OMEM, the RNG stream and the counter of free values. -/
theorem clobberAll_frame (regions : List (Nat × Nat)) (u : State) :
    (u.clobberAll regions).params = u.params ∧ (u.clobberAll regions).agenda = u.agenda
      ∧ (u.clobberAll regions).answers = u.answers := by
  induction regions generalizing u with
  | nil => exact ⟨rfl, rfl, rfl⟩
  | cons q rest ih => exact ih (u.clobber q)

theorem softReset_inv {s : State} (h : s.Inv) : (softReset s).Inv := by
  unfold softReset
  split
  · refine resetRegisters_inv ?_
    rw [(clobberAll_frame _ _).1]
    exact clobberAll_within s.flightRegions (u := s.dropDrawn) h.within
  · exact resetRegisters_inv h.within

/-! ### The HOST transactions -/

theorem writeStatus_inv {s : State} (h : s.Inv) (w : Word) : (writeStatus w s).Inv where
  omem_canonical := h.omem_canonical
  omem_inside := h.omem_inside
  busy_not_err hb := by simp [h.busy_not_err hb]
  busy_not_done hb := by simp [h.busy_not_done hb]
  no_error_no_code he := by
    cases herr : s.err
    · simpa [herr] using h.no_error_no_code herr
    · simp [herr] at he; simp [herr, he]
  error_names_command he := by
    rw [writeStatus_err, Bool.and_eq_true, Bool.not_eq_true'] at he
    obtain ⟨herr, hw⟩ := he
    rw [writeStatus_errinfo, writeStatus_errcode, hw, Bool.and_false]
    exact h.error_names_command herr
  idle_no_progress := h.idle_no_progress

theorem acceptCommand_inv {s : State} (h : s.Inv) (herr : s.err = false) (w : Word) : (acceptCommand w s).Inv where
  omem_canonical := h.omem_canonical
  omem_inside := h.omem_inside
  busy_not_err _ := herr
  busy_not_done _ := rfl
  no_error_no_code := h.no_error_no_code
  error_names_command he := absurd (he.symm.trans herr) (by decide)
  idle_no_progress := nofun

theorem writeCmd_inv {s : State} (h : s.Inv) (w : Word) : (writeCmd w s).Inv := by
  unfold writeCmd
  split
  next => exact h.congr rfl
  next herr => exact acceptCommand_inv h (by simpa using herr) w

theorem writeCtrl_inv {s : State} (h : s.Inv) (w : Word) : (writeCtrl w s).Inv := by
  unfold writeCtrl
  split
  · exact softReset_inv h
  · exact h.congr rfl

theorem writePlainCsr_guarded (c : Csr) (w : Word) (s : State) : (writePlainCsr c w s).guarded = s.guarded := by
  cases c <;> rfl

theorem hostCsrWrite_inv {s : State} (h : s.Inv) (idx : BitVec 8) (w : Word) : (hostCsrWrite idx w s).Inv := by
  unfold hostCsrWrite
  split
  · exact writeCtrl_inv h w
  · exact writeStatus_inv h w
  · split
    · exact h.congr rfl
    · split
      · exact writeCmd_inv h w
      · exact h.congr (writePlainCsr_guarded _ w s)

theorem hostMemRead_guarded (addr : Nat) (s : State) : (hostMemRead addr s).guarded = s.guarded := by
  unfold hostMemRead
  split
  · rfl
  · split <;> rfl

theorem writeBytes_inv {s : State} (h : s.Inv) {addr : Nat} {bytes : List Byte}
    (hfit : addr + bytes.length ≤ s.params.omemSize) : (s.writeBytes addr bytes).Inv :=
  have hmem := h.within.storeAll hfit
  { omem_canonical := hmem.1
    omem_inside := hmem.2
    busy_not_err := h.busy_not_err
    busy_not_done := h.busy_not_done
    no_error_no_code := h.no_error_no_code
    error_names_command := h.error_names_command
    idle_no_progress := h.idle_no_progress }

theorem hostMemWrite_inv {s : State} (h : s.Inv) (addr : Nat) (b : Byte) : (hostMemWrite addr b s).Inv := by
  unfold hostMemWrite
  split
  · exact h.congr rfl
  · split
    next hin => exact writeBytes_inv h hin
    next => exact h.congr rfl

theorem hostTransaction_inv {s : State} (h : s.Inv) (tx : HostTx) : (hostTransaction tx s).Inv := by
  cases tx with
  | csrRead idx => exact h.congr rfl
  | csrWrite idx w => exact hostCsrWrite_inv h idx w
  | memRead addr => exact h.congr (hostMemRead_guarded addr s)
  | memWrite addr b => exact hostMemWrite_inv h addr b

/-! ### Events and steps -/

theorem busAccess_inv {s t : State} (h : s.Inv) {a : BusAccess} (hbus : busAccess a s = .next t) : t.Inv := by
  rcases busAccess_cases a s with ⟨ts, -, heq⟩ | ⟨f, -, heq⟩ | ⟨r, -, heq⟩
  · cases heq.symm.trans hbus; exact h.congr rfl
  · cases heq.symm.trans hbus
  · cases heq.symm.trans hbus

theorem handleEvent_inv {s t : State} (h : s.Inv) {e : Event} (hevent : handleEvent e s = .next t) : t.Inv := by
  cases e with
  | host tx => cases hevent; exact hostTransaction_inv h tx
  | bus a => exact busAccess_inv h hevent
  | busAnswer width => cases hevent; exact h.congr rfl
  | rngByte b => cases hevent; exact h.congr rfl
  | engine => exact engineTurn_inv h hevent
  | progress => cases hevent; exact engineProgress_inv h
  | statusWriteAtEnd w => exact engineTurn_inv (writeStatus_inv h w) hevent
  | hardwareReset => cases hevent; exact hardwareReset_inv s

/-- Settles O58: each event keeps the invariant, and a step is an event or the engine's turn. -/
theorem everyStepKeepsTheInvariant : Obligations.EveryStepKeepsTheInvariant := by
  intro s t hinv hstep
  have hnext : nextEvent s = .next t := hstep
  cases hagenda : s.agenda with
  | nil => exact engineTurn_inv hinv (nextEvent_nil hagenda ▸ hnext)
  | cons e rest =>
    rw [nextEvent_cons hagenda] at hnext
    exact handleEvent_inv (s := { s with agenda := rest }) (hinv.congr rfl) hnext

theorem resetWith_inv (p : Params) : (State.resetWith p).Inv :=
  inv_of_idle (Memory.within_nil _) rfl rfl rfl rfl rfl

/-- Settles O57. -/
theorem invariantHoldsAtReset : Obligations.InvariantHoldsAtReset := ⟨resetWith_inv, resetWith_inv _⟩

/-! ## The bits of `STATUS` and `CTRL` -/

/-- The flags of `STATUS` (10_state R33). -/
theorem statusWord_flags (s : State) :
    s.statusWord.getLsbD 0 = s.busy ∧ s.statusWord.getLsbD 1 = s.done ∧ s.statusWord.getLsbD 2 = s.err
      ∧ s.statusWord.getLsbD 3 = s.valid ∧ s.statusWord.getLsbD 4 = s.haz := by
  simp only [State.statusWord, BitVec.getLsbD_append]
  simp

/-- The field of `PHASE` (10_state R33). -/
theorem statusWord_phase (s : State) : s.statusWord.extractLsb' 8 3 = s.phase.code := by
  apply BitVec.eq_of_getLsbD_eq
  intro i hi
  simp only [State.statusWord, BitVec.getLsbD_append, BitVec.getLsbD_extractLsb']
  interval_cases i <;> simp

/-- The reserved bits of `STATUS`: a gap of three below `PHASE`, and everything above it. -/
theorem statusWord_reserved (s : State) (i : Nat) (h : (5 ≤ i ∧ i ≤ 7) ∨ 11 ≤ i) : s.statusWord.getLsbD i = false := by
  simp only [State.statusWord, BitVec.getLsbD_append]
  rcases h with ⟨hlow, hhigh⟩ | hhigh
  · interval_cases i <;> simp
  · have habove : ¬ i < 11 := by omega
    simp [habove]

theorem ctrlWord_flags (s : State) : s.ctrlWord.getLsbD 0 = s.ieDone ∧ s.ctrlWord.getLsbD 1 = s.ieErr := by
  simp only [State.ctrlWord, BitVec.getLsbD_append]
  simp

theorem ctrlWord_reserved (s : State) (i : Nat) (h : 2 ≤ i) : s.ctrlWord.getLsbD i = false := by
  simp only [State.ctrlWord, BitVec.getLsbD_append]
  simp [show ¬ i < 2 by omega]

/-- Settles O8. -/
theorem statusAndCtrlBitPlaces : Obligations.StatusAndCtrlBitPlaces := by
  intro s
  obtain ⟨hbusy, hdone, herr, hvalid, hhaz⟩ := statusWord_flags s
  obtain ⟨hieDone, hieErr⟩ := ctrlWord_flags s
  exact ⟨hbusy, hdone, herr, hvalid, hhaz, statusWord_phase s, statusWord_reserved s, hieDone, hieErr,
    ctrlWord_reserved s, rfl, rfl⟩

/-! ## The CSR map -/

/-- The field registers stand at 0x10 to 0x1F. -/
theorem csrOfIndex_gWindow (r : GReg) : csrOfIndex (BitVec.ofNat 8 (0x10 + r.val)) = .gWindow r := by
  revert r; decide

/-- The pointer registers stand at 0x20 to 0x2F. -/
theorem csrOfIndex_pWindow (r : PReg) : csrOfIndex (BitVec.ofNat 8 (0x20 + r.val)) = .pWindow r := by
  revert r; decide

/-- From 0x30 on every index is reserved. -/
theorem csrOfIndex_reserved (idx : BitVec 8) (h : 0x30 ≤ idx.toNat) : csrOfIndex idx = .reserved := by
  revert idx; decide

/-- A HOST transaction at the front of the agenda is the next step. -/
theorem step_host {s : State} {tx : HostTx} {rest : List Event} (h : s.agenda = .host tx :: rest) :
    step s = .next (hostTransaction tx { s with agenda := rest }) := nextEvent_cons h

/-- Settles O9: the read is the next step, and the map is read off index by index. -/
theorem csrReadsFollowTheMap : Obligations.CsrReadsFollowTheMap := by
  intro s
  have hbyte (x : Byte) : (x.setWidth 32).toNat = x.toNat := BitVec.toNat_setWidth_of_le (by decide)
  refine ⟨fun idx rest hagenda => step_host hagenda, rfl, rfl, rfl, BitVec.toNat_setWidth_of_le (by decide), rfl, rfl,
    hbyte s.dimN, hbyte s.dimV, hbyte s.dimM, hbyte s.laRows, hbyte s.laCols, hbyte s.sigLen, hbyte s.tgtLen,
    rfl, rfl, rfl, fun r => ?_, fun r => ?_, fun idx hidx => ?_⟩
  · rw [csrOfIndex_gWindow]; exact hbyte (s.readG r)
  · rw [csrOfIndex_pWindow]; rfl
  · rw [csrOfIndex_reserved idx hidx]; rfl

/-! ## CSR writes while not BUSY -/

/-- An idle write of a CSR that has no write of its own is the plain write (10_state R28). -/
theorem step_csrWrite_plain {s : State} {idx : BitVec 8} {w : Word} {rest : List Event} (hidle : s.busy = false)
    (hagenda : s.agenda = .host (.csrWrite idx w) :: rest) {c : Csr} (hc : csrOfIndex idx = c)
    (hown : c ≠ .ctrl ∧ c ≠ .status ∧ c ≠ .cmd) :
    step s = .next (writePlainCsr c w { s with agenda := rest }) := by
  obtain ⟨hctrl, hstatus, hcmd⟩ := hown
  have hwrite : hostCsrWrite idx w { s with agenda := rest } = writePlainCsr c w { s with agenda := rest } := by
    unfold hostCsrWrite
    rw [hc]
    split
    · contradiction
    · contradiction
    · simp [hidle, hcmd]
  exact (step_host hagenda).trans (congrArg _ hwrite)

/-- A host write of `STATUS` at any time. -/
theorem step_csrWrite_status {s : State} {w : Word} {rest : List Event}
    (hagenda : s.agenda = .host (.csrWrite 0x02#8 w) :: rest) :
    step s = .next (writeStatus w { s with agenda := rest }) := step_host hagenda

/-- A host write of `CTRL` at any time. -/
theorem step_csrWrite_ctrl {s : State} {w : Word} {rest : List Event}
    (hagenda : s.agenda = .host (.csrWrite 0x01#8 w) :: rest) :
    step s = .next (writeCtrl w { s with agenda := rest }) := step_host hagenda

/-- The CSRs whose writes are ignored, the reserved ones included (10_state R26, R29). -/
def Csr.ignoresWrites : Csr → Bool
  | .id | .errcode | .errinfo | .attempt | .budget | .omemsz | .reserved => true
  | .ctrl | .status | .cmd | .dimN | .dimV | .dimM | .laRows | .laCols | .sigLen | .tgtLen | .gWindow _ | .pWindow _ =>
    false

theorem csrOfIndex_ignoresWrites {idx : BitVec 8}
    (h : idx.toNat ∈ [0x00, 0x03, 0x04, 0x0D, 0x0E, 0x0F] ∨ 0x30 ≤ idx.toNat) :
    (csrOfIndex idx).ignoresWrites = true := by
  revert idx; decide

theorem writePlainCsr_of_ignoresWrites {c : Csr} (h : c.ignoresWrites = true) (w : Word) (s : State) :
    writePlainCsr c w s = s :=
  match c, h with
  | .id, _ | .errcode, _ | .errinfo, _ | .attempt, _ | .budget, _ | .omemsz, _ | .reserved, _ => rfl

/-- Settles O10: `CTRL` and `STATUS` have writes of their own, every other index is a plain write of its CSR. -/
theorem idleCsrWritesFollowTheMap : Obligations.IdleCsrWritesFollowTheMap := by
  intro s idx w rest hidle hagenda
  have hplain := fun c (hc : csrOfIndex idx = c) => step_csrWrite_plain hidle hagenda hc
  refine ⟨?_, ?_, ?_, ?_, ?_, ?_, ?_, ?_, ?_, ?_, ?_, ?_⟩
  · rintro rfl hsrst
    rw [step_csrWrite_ctrl hagenda, writeCtrl, hsrst]
    rfl
  · rintro rfl
    rw [step_csrWrite_status hagenda]
    simp [writeStatus]
  · rintro rfl; exact hplain .dimN rfl (by decide)
  · rintro rfl; exact hplain .dimV rfl (by decide)
  · rintro rfl; exact hplain .dimM rfl (by decide)
  · rintro rfl; exact hplain .laRows rfl (by decide)
  · rintro rfl; exact hplain .laCols rfl (by decide)
  · rintro rfl; exact hplain .sigLen rfl (by decide)
  · rintro rfl; exact hplain .tgtLen rfl (by decide)
  · rintro r rfl
    exact hplain (.gWindow r) (csrOfIndex_gWindow r) ⟨nofun, nofun, nofun⟩
  · rintro r rfl
    exact hplain (.pWindow r) (csrOfIndex_pWindow r) ⟨nofun, nofun, nofun⟩
  · intro hidx
    have hignores := csrOfIndex_ignoresWrites hidx
    have hown : csrOfIndex idx ≠ .ctrl ∧ csrOfIndex idx ≠ .status ∧ csrOfIndex idx ≠ .cmd := by
      refine ⟨?_, ?_, ?_⟩ <;> (intro hc; rw [hc] at hignores; cases hignores)
    rw [hplain _ rfl hown, writePlainCsr_of_ignoresWrites hignores]

/-! ## The two resets -/

/-- `STATUS` reads 0 with every flag clear and `PHASE` IDLE. -/
theorem statusWord_eq_zero {s : State} (hbusy : s.busy = false) (hdone : s.done = false) (herr : s.err = false)
    (hvalid : s.valid = false) (hhaz : s.haz = false) (hphase : s.phase = .idle) : s.statusWord = 0#32 := by
  rw [State.statusWord, hbusy, hdone, herr, hvalid, hhaz, hphase]
  decide

/-- `CTRL` reads 0 with both enables clear. -/
theorem ctrlWord_eq_zero {s : State} (hdone : s.ieDone = false) (herr : s.ieErr = false) : s.ctrlWord = 0#32 := by
  rw [State.ctrlWord, hdone, herr]
  decide

/-- The table of R49 says nothing of OMEM, the RNG stream and the model's own fields. -/
theorem registersReset_of_resetWith (p : Params) (m : Memory) (bytes : List Byte) (epoch k : Nat)
    (answers : List HostAnswer) (agenda : List Event) :
    RegistersReset { State.resetWith p with
      omem := m, rng := bytes, omemEpoch := epoch, freeCount := k, answers := answers, agenda := agenda } := by
  have hg (r : GReg) : (Vector.replicate 16 0x00#8)[r] = 0x00#8 := by simp
  have hp (r : PReg) : (Vector.replicate 16 0x00000000#32)[r] = 0x00000000#32 := by simp
  exact ⟨hg, hp, ctrlWord_eq_zero rfl rfl, statusWord_eq_zero rfl rfl rfl rfl rfl rfl, rfl, rfl, rfl, rfl, rfl, rfl, rfl,
    rfl, rfl, rfl, rfl, rfl, rfl, rfl, rfl, rfl⟩

/-- An abandoned command has drawn no more bytes than were offered. -/
theorem dropDrawn_rng_drop (s : State) : ∃ k, k ≤ s.rng.length ∧ s.dropDrawn.rng = s.rng.drop k := by
  refine ⟨min (min (Config.abandonedDraws s.freeCount) s.drawBound) s.rng.length, Nat.min_le_right _ _, ?_⟩
  rw [dropDrawn_rng, ← List.drop_eq_drop_min]

theorem hardwareReset_registers (s : State) : RegistersReset (hardwareReset s) :=
  registersReset_of_resetWith _ _ _ _ _ _ _

/-- What the hardware reset leaves alone: the parameters and the host's side. -/
theorem hardwareReset_frame (s : State) :
    (hardwareReset s).params = s.params ∧ (hardwareReset s).agenda = s.agenda
      ∧ (hardwareReset s).answers = s.answers := by
  unfold hardwareReset
  cases s.busy <;> exact ⟨rfl, rfl, rfl⟩

/-- The hardware reset draws no RNG byte; what a command in flight has drawn stays consumed (93 U4). -/
theorem hardwareReset_rng (s : State) :
    (s.busy = false → (hardwareReset s).rng = s.rng)
      ∧ (s.busy = true → ∃ k, k ≤ s.rng.length ∧ (hardwareReset s).rng = s.rng.drop k) := by
  unfold hardwareReset
  refine ⟨fun hidle => ?_, fun hbusy => ?_⟩
  · rw [hidle]; rfl
  · rw [hbusy]; exact dropDrawn_rng_drop s

theorem softReset_registers (s : State) : RegistersReset (softReset s) := by
  unfold softReset
  split <;> exact registersReset_of_resetWith _ _ _ _ _ _ _

/-- What the soft reset leaves alone: the parameters and the host's side. -/
theorem softReset_frame (s : State) :
    (softReset s).params = s.params ∧ (softReset s).agenda = s.agenda ∧ (softReset s).answers = s.answers := by
  unfold softReset
  split
  · exact clobberAll_frame s.flightRegions s.dropDrawn
  · exact ⟨rfl, rfl, rfl⟩

/-- A host write of `CTRL` with SRST is the soft reset, at any time. -/
theorem step_softReset {s : State} {w : Word} {rest : List Event}
    (hagenda : s.agenda = .host (.csrWrite 0x01#8 w) :: rest) (hsrst : w.getLsbD 31 = true) :
    step s = .next (softReset { s with agenda := rest }) := by
  rw [step_csrWrite_ctrl hagenda, writeCtrl, if_pos hsrst]

/-- Settles O1. -/
theorem resetsPutRegistersAtTheirValues : Obligations.ResetsPutRegistersAtTheirValues := by
  refine ⟨⟨registersReset_of_resetWith _ _ _ _ _ _ _, fun _ => rfl⟩, fun s rest hagenda => ?_,
    fun s w rest hagenda hsrst => ?_⟩
  · obtain ⟨hparams, hrest, hanswers⟩ := hardwareReset_frame { s with agenda := rest }
    exact ⟨_, nextEvent_cons hagenda, hardwareReset_registers _, hparams, hrest, hanswers, fun _ => rfl,
      hardwareReset_rng { s with agenda := rest }⟩
  · obtain ⟨hparams, hrest, hanswers⟩ := softReset_frame { s with agenda := rest }
    exact ⟨_, step_softReset hagenda hsrst, softReset_registers _, hparams, hrest, hanswers⟩

/-! ## KEYGEN and SIGN short of RNG bytes

Both loops are runs of a transition function. A run is cut at the top of each pass (`KeyAtTest`, `SignAtDraw`): after
the passes that the bytes offered allow, all of them unsuccessful, the run stands at a draw that waits. -/

/-! ### The words of the statements and those of the model -/

theorem dimOk_iff (s : State) : s.dimOk = true ↔ DimOK s := by
  simp only [State.dimOk, Bool.and_eq_true, decide_eq_true_eq, and_assoc]
  rfl

theorem regionOk_iff (s : State) (r : PReg) (len : Nat) : s.regionOk r len = true ↔ Fits s r len :=
  decide_eq_true_iff

theorem keygenChecks_pass {s : State} {pf pt pi : PReg} (hdim : DimOK s) (hfits : KeygenFits s pf pt pi) :
    firstError (keygenChecks pf pt pi s) = none := by
  obtain ⟨hf, ht, hi⟩ := hfits
  rw [firstError_eq_none]
  simp only [keygenChecks, List.forall_mem_cons, Bool.and_eq_true, regionOk_iff]
  exact ⟨(dimOk_iff s).2 hdim, ⟨⟨hf, ht⟩, hi⟩, nofun⟩

theorem signChecks_pass {s : State} {ps pf pi pt : PReg} (hdim : DimOK s) (htgt : s.tgtLen = s.dimM)
    (hfits : SignFits s ps pf pi pt) : firstError (signChecks ps pf pi pt s) = none := by
  obtain ⟨hf, hi, ht, hs⟩ := hfits
  rw [firstError_eq_none]
  simp only [signChecks, List.forall_mem_cons, Bool.and_eq_true, regionOk_iff, decide_eq_true_eq]
  exact ⟨(dimOk_iff s).2 hdim, congrArg BitVec.toNat htgt, ⟨⟨⟨hf, hi⟩, ht⟩, hs⟩, nofun⟩

/-- A wait that shows no more than `PHASE`, `ATTEMPT` and progress leaves the command in flight. -/
theorem staysInFlight_of_progress (s : State) (ph : Phase) (a : Word) (k : Nat) :
    StaysInFlight s { s with phase := ph, attempt := a, progress := k } :=
  ⟨rfl, rfl, rfl, rfl, rfl, ⟨rfl, rfl, rfl, rfl, rfl, rfl, rfl, rfl, rfl⟩, fun _ => rfl, fun _ => rfl, fun _ => rfl,
    ⟨⟨rfl, rfl, rfl, rfl, rfl⟩, rfl, rfl⟩, rfl⟩

/-! ### Vectors and matrices read from bytes -/

theorem vecOf_congr {k : Nat} {e e' : Nat → Byte} (h : ∀ i, i < k → e i = e' i) : vecOf k e = vecOf k e' :=
  List.map_congr_left fun i hi => h i (List.mem_range.1 hi)

theorem matOf_congr {r c : Nat} {e e' : Nat → Nat → Byte} (h : ∀ i j, i < r → j < c → e i j = e' i j) :
    matOf r c e = matOf r c e' :=
  List.map_congr_left fun i hi => vecOf_congr fun j hj => h i j (List.mem_range.1 hi) hj

theorem xorUpTo_congr {k : Nat} {e e' : Nat → Byte} (h : ∀ i, i < k → e i = e' i) : xorUpTo k e = xorUpTo k e' := by
  induction k with
  | zero => rfl
  | succ k ih => rw [xorUpTo, xorUpTo, ih fun i hi => h i (by omega), h k (by omega)]

/-- A row-major index stays below the size of the matrix. -/
theorem rowMajor_lt {r c i j : Nat} (hi : i < r) (hj : j < c) : i * c + j < r * c :=
  calc i * c + j < i * c + c := by omega
    _ = (i + 1) * c := (Nat.succ_mul i c).symm
    _ ≤ r * c := Nat.mul_le_mul_right c hi

theorem getD_drop (l : List Byte) (a k : Nat) : (l.drop a).getD k 0#8 = l.getD (a + k) 0#8 := by
  simp [List.getD_eq_getElem?_getD]

/-- Byte k of a group of `len` bytes of the stream. -/
theorem getD_take_drop (l : List Byte) (a : Nat) {k len : Nat} (h : k < len) :
    ((l.drop a).take len).getD k 0#8 = l.getD (a + k) 0#8 := by
  simp [List.getD_eq_getElem?_getD, h]

/-! ### Runs of R182 -/

section KeyRun
variable {budget : Option Nat} {n mapSize : Nat} {r : KeyRun}

theorem keyRun_add (a b : Nat) (r : KeyRun) :
    keyRun budget n mapSize (a + b) r = keyRun budget n mapSize b (keyRun budget n mapSize a r) := by
  induction a generalizing r with
  | zero => rw [Nat.zero_add]; rfl
  | succ a ih =>
    rw [Nat.succ_add, keyRun, keyRun]
    cases hnext : keyNext budget n mapSize r with
    | some r' => exact ih r'
    | none =>
      cases b with
      | zero => rfl
      | succ b => simp [keyRun, hnext]

theorem keyRun_of_some {r' : KeyRun} (h : keyNext budget n mapSize r = some r') (k : Nat) :
    keyRun budget n mapSize (k + 1) r = keyRun budget n mapSize k r' := by rw [keyRun, h]

/-- A run that has ended or waits stands still. -/
theorem keyRun_of_none (h : keyNext budget n mapSize r = none) (k : Nat) : keyRun budget n mapSize k r = r := by
  cases k with
  | zero => rfl
  | succ k => rw [keyRun, h]

theorem keyNext_drawF (h : r.stage = .drawF) :
    keyNext budget n mapSize r = if mapSize ≤ r.rng.length then
      some { r with stage := .test, fbuf := r.rng.take mapSize, rng := r.rng.drop mapSize, steps := r.steps + 1 }
    else none := by rw [keyNext, h]

theorem keyNext_test (h : r.stage = .test) :
    keyNext budget n mapSize r = if budget = some r.draws then some { r with stage := .exhausted, steps := r.steps + 1 }
      else some { r with stage := .drawT, draws := r.draws + 1, steps := r.steps + 1 } := by rw [keyNext, h]

theorem keyNext_drawT (h : r.stage = .drawT) :
    keyNext budget n mapSize r = if n * n ≤ r.rng.length then
      some { r with
        stage := .invert, t := matOfBytes n n (r.rng.take (n * n)), rng := r.rng.drop (n * n), steps := r.steps + 1 }
    else none := by rw [keyNext, h]

theorem keyNext_invert_singular (h : r.stage = .invert) (hsing : minv n r.t = none) :
    keyNext budget n mapSize r = some { r with stage := .test, steps := r.steps + 1 } := by
  simp [keyNext, h, hsing]

end KeyRun

section Keygen
variable (s : State)

/-- The matrix made of group number j of n*n bytes is candidate number j. -/
theorem matOfBytes_candidate (j : Nat) :
    matOfBytes s.nDim s.nDim ((s.rng.drop (s.mapSize + j * (s.nDim * s.nDim))).take (s.nDim * s.nDim))
      = candidateT s j :=
  matOf_congr fun _ _ hi hk => getD_take_drop _ _ (rowMajor_lt hi hk)

/-- The run stands at the budget test after j passes. -/
def KeyAtTest (j : Nat) (r : KeyRun) : Prop :=
  r.stage = .test ∧ r.draws = j ∧ r.rng = s.rng.drop (s.mapSize + j * (s.nDim * s.nDim))

variable {s}

/-- The run at the draw of its next candidate, the budget test passed. -/
def KeyRun.atDraw (r : KeyRun) : KeyRun := { r with stage := .drawT, draws := r.draws + 1, steps := r.steps + 1 }

/-- With draws left, the test is one step. -/
theorem keyRun_test_pass {j : Nat} {r : KeyRun} (h : KeyAtTest s j r) (hbudget : s.params.keygenBudget ≠ some j) :
    keyRun s.params.keygenBudget s.nDim s.mapSize 1 r = r.atDraw := by
  obtain ⟨hstage, hdraws, -⟩ := h
  exact keyRun_of_some ((keyNext_test hstage).trans (if_neg (hdraws.symm ▸ hbudget))) 0

/-- A pass of the loop over a singular candidate is three steps. -/
theorem keyRun_singular_pass {j : Nat} {r : KeyRun} (h : KeyAtTest s j r) (hbudget : s.params.keygenBudget ≠ some j)
    (hbytes : s.mapSize + (j + 1) * (s.nDim * s.nDim) ≤ s.rng.length)
    (hsing : minv s.nDim (candidateT s j) = none) :
    KeyAtTest s (j + 1) (keyRun s.params.keygenBudget s.nDim s.mapSize 3 r) := by
  rw [show 3 = 1 + 2 from rfl, keyRun_add, keyRun_test_pass h hbudget]
  obtain ⟨-, hdraws, hrng⟩ := h
  rw [Nat.succ_mul] at hbytes
  have henough : s.nDim * s.nDim ≤ r.atDraw.rng.length := by
    change _ ≤ r.rng.length
    rw [hrng, List.length_drop]; omega
  have hcandidate : minv s.nDim (matOfBytes s.nDim s.nDim (r.atDraw.rng.take (s.nDim * s.nDim))) = none := by
    change minv _ (matOfBytes _ _ (r.rng.take _)) = none
    rw [hrng, matOfBytes_candidate]; exact hsing
  have hdraw := (keyNext_drawT (budget := s.params.keygenBudget) (mapSize := s.mapSize) (r := r.atDraw) rfl).trans
    (if_pos henough)
  rw [keyRun_of_some hdraw, keyRun_of_some (keyNext_invert_singular rfl hcandidate)]
  refine ⟨rfl, congrArg (· + 1) hdraws, ?_⟩
  change r.rng.drop (s.nDim * s.nDim) = _
  rw [hrng, List.drop_drop, Nat.succ_mul, Nat.add_assoc]

/-- After the bytes of F and j singular candidates the run stands at the test again. -/
theorem keyRunFor_test (j : Nat) (hbudget : ∀ k, k < j → s.params.keygenBudget ≠ some k)
    (hbytes : s.mapSize + j * (s.nDim * s.nDim) ≤ s.rng.length)
    (hsing : ∀ k, k < j → minv s.nDim (candidateT s k) = none) : KeyAtTest s j (s.keyRunFor (3 * j + 1)) := by
  induction j with
  | zero =>
    have henough : s.mapSize ≤ s.keyStart.rng.length := le_trans (Nat.le_add_right _ _) hbytes
    rw [State.keyRunFor, keyRun_of_some ((keyNext_drawF rfl).trans (if_pos henough))]
    exact ⟨rfl, rfl, by simp [State.keyStart, keyRun]⟩
  | succ j ih =>
    have hfewer : s.mapSize + j * (s.nDim * s.nDim) ≤ s.rng.length := by rw [Nat.succ_mul] at hbytes; omega
    have htest := ih (fun k hk => hbudget k (by omega)) hfewer (fun k hk => hsing k (by omega))
    rw [show 3 * (j + 1) + 1 = 3 * j + 1 + 3 by omega, State.keyRunFor, keyRun_add]
    exact keyRun_singular_pass htest (hbudget j (by omega)) hbytes (hsing j (by omega))

/-- Without the bytes of F the run waits at its first draw. -/
theorem keyRunFor_waits_drawF (hbytes : s.rng.length < s.mapSize) (fuel : Nat) : s.keyRunFor fuel = s.keyStart :=
  keyRun_of_none ((keyNext_drawF rfl).trans (if_neg (Nat.not_le.2 hbytes))) fuel

/-- With bytes for j singular candidates and not for another, the run waits for the bytes of candidate j + 1. -/
theorem keyRunFor_waits_drawT {j fuel : Nat} (hbudget : ∀ k, k ≤ j → s.params.keygenBudget ≠ some k)
    (hbytes : s.mapSize + j * (s.nDim * s.nDim) ≤ s.rng.length)
    (hshort : s.rng.length < s.mapSize + (j + 1) * (s.nDim * s.nDim))
    (hsing : ∀ k, k < j → minv s.nDim (candidateT s k) = none) (hfuel : 3 * j + 2 ≤ fuel) :
    (s.keyRunFor fuel).stage = .drawT ∧ (s.keyRunFor fuel).draws = j + 1 := by
  have htest := keyRunFor_test j (fun k hk => hbudget k (by omega)) hbytes hsing
  obtain ⟨more, rfl⟩ := Nat.exists_eq_add_of_le hfuel
  have ⟨_, hdraws, hrng⟩ := htest
  rw [Nat.succ_mul] at hshort
  have hwaits : ¬ s.nDim * s.nDim ≤ (s.keyRunFor (3 * j + 1)).atDraw.rng.length := by
    change ¬ _ ≤ (s.keyRunFor (3 * j + 1)).rng.length
    rw [hrng, List.length_drop]; omega
  have hrun : s.keyRunFor (3 * j + 2 + more) = (s.keyRunFor (3 * j + 1)).atDraw := by
    rw [State.keyRunFor, keyRun_add, show 3 * j + 2 = 3 * j + 1 + 1 from rfl, keyRun_add, ← State.keyRunFor,
      keyRun_test_pass htest (hbudget j le_rfl)]
    exact keyRun_of_none ((keyNext_drawT rfl).trans (if_neg hwaits)) more
  rw [hrun]
  exact ⟨rfl, congrArg (· + 1) hdraws⟩

/-- A KEYGEN whose run waits for bytes shows the draws begun and stays in flight. -/
theorem execKeygen_waits {pf pt pi : PReg} (hdim : DimOK s) (hfits : KeygenFits s pf pt pi)
    (hstage : (s.keyRunFor s.keyFuel).stage = .drawF ∨ (s.keyRunFor s.keyFuel).stage = .drawT) :
    exec (.keygen pf pt pi) s = .next { s with
      attempt := attemptOfDraws (s.keyRunFor s.keyFuel).draws, progress := (s.keyRunFor s.keyFuel).steps + 1 } := by
  change execKeygen pf pt pi s = _
  rw [execKeygen, withChecks_of_none (keygenChecks_pass hdim hfits)]
  rcases hstage with hstage | hstage <;> simp only [hstage]

/-- Whatever bytes have been offered to a KEYGEN that meets singular candidates only, its run waits at a draw. -/
theorem keyRunFor_waits (hdim : DimOK s)
    (hbudget : ∀ b, s.params.keygenBudget = some b → s.rng.length < s.mapSize + b * (s.nDim * s.nDim))
    (hsing : ∀ k, s.mapSize + (k + 1) * (s.nDim * s.nDim) ≤ s.rng.length → minv s.nDim (candidateT s k) = none) :
    (s.rng.length < s.mapSize → s.keyRunFor s.keyFuel = s.keyStart)
      ∧ ∀ j, s.mapSize + j * (s.nDim * s.nDim) ≤ s.rng.length →
        s.rng.length < s.mapSize + (j + 1) * (s.nDim * s.nDim) →
        (s.keyRunFor s.keyFuel).stage = .drawT ∧ (s.keyRunFor s.keyFuel).draws = j + 1 := by
  refine ⟨fun hshort => keyRunFor_waits_drawF hshort _, fun j hbytes hshort => ?_⟩
  have hn : 1 ≤ s.nDim := hdim.1
  have hfuel : 3 * j + 2 ≤ s.keyFuel := by
    have hj : j ≤ j * (s.nDim * s.nDim) := Nat.le_mul_of_pos_right j (Nat.mul_pos hn hn)
    unfold State.keyFuel
    omega
  have hmono {k k' : Nat} (hk : k ≤ k') : k * (s.nDim * s.nDim) ≤ k' * (s.nDim * s.nDim) :=
    Nat.mul_le_mul_right _ hk
  refine keyRunFor_waits_drawT (fun k hk heq => ?_) hbytes hshort (fun k hk => hsing k ?_) hfuel
  · have hlimit := hbudget k heq
    have hless := hmono hk
    omega
  · have hless := hmono (k := k + 1) hk
    omega

theorem keygen_stays_in_flight {pf pt pi : PReg} (hdim : DimOK s) (hfits : KeygenFits s pf pt pi)
    (hbudget : ∀ b, s.params.keygenBudget = some b → s.rng.length < s.mapSize + b * (s.nDim * s.nDim))
    (hsing : ∀ k, s.mapSize + (k + 1) * (s.nDim * s.nDim) ≤ s.rng.length → minv s.nDim (candidateT s k) = none) :
    ∃ t, exec (.keygen pf pt pi) s = .next t ∧ StaysInFlight s t ∧ t.rng = s.rng ∧ t.phase = s.phase
      ∧ (s.rng.length < s.mapSize → t.attempt = 0#32)
      ∧ ∀ j, s.mapSize + j * (s.nDim * s.nDim) ≤ s.rng.length →
        s.rng.length < s.mapSize + (j + 1) * (s.nDim * s.nDim) →
        t.attempt = BitVec.ofNat 32 (min (j + 1) (2 ^ 32 - 1)) := by
  obtain ⟨hwaitsF, hwaitsT⟩ := keyRunFor_waits hdim hbudget hsing
  have hpos : 0 < s.nDim * s.nDim := Nat.mul_pos hdim.1 hdim.1
  have hstage : (s.keyRunFor s.keyFuel).stage = .drawF ∨ (s.keyRunFor s.keyFuel).stage = .drawT := by
    rcases Nat.lt_or_ge s.rng.length s.mapSize with hshort | hbytes
    · exact .inl (congrArg KeyRun.stage (hwaitsF hshort))
    · have hle := Nat.div_mul_le_self (s.rng.length - s.mapSize) (s.nDim * s.nDim)
      have hlt := Nat.lt_mul_of_div_lt (Nat.lt_add_one ((s.rng.length - s.mapSize) / (s.nDim * s.nDim))) hpos
      exact .inr (hwaitsT ((s.rng.length - s.mapSize) / (s.nDim * s.nDim)) (by omega) (by omega)).1
  refine ⟨_, execKeygen_waits hdim hfits hstage, staysInFlight_of_progress s _ _ _, rfl, rfl, fun hshort => ?_,
    fun j hbytes hshort => ?_⟩
  · change attemptOfDraws _ = _
    rw [hwaitsF hshort]
    rfl
  · change attemptOfDraws _ = _
    rw [(hwaitsT j hbytes hshort).2]
    rfl

end Keygen

/-! ### Runs of R191 -/

section SignRun
variable {v m : Nat} {f : List Poly} {tgt : Vec} {r : SignRun}

theorem signRun_add (a b : Nat) (r : SignRun) :
    signRun v m f tgt (a + b) r = signRun v m f tgt b (signRun v m f tgt a r) := by
  induction a generalizing r with
  | zero => rw [Nat.zero_add]; rfl
  | succ a ih =>
    rw [Nat.succ_add, signRun, signRun]
    cases hnext : signNext v m f tgt r with
    | some r' => exact ih r'
    | none =>
      cases b with
      | zero => rfl
      | succ b => simp [signRun, hnext]

theorem signRun_of_some {r' : SignRun} (h : signNext v m f tgt r = some r') (k : Nat) :
    signRun v m f tgt (k + 1) r = signRun v m f tgt k r' := by rw [signRun, h]

/-- A run in a terminal state, or one that waits, stands still. -/
theorem signRun_of_none (h : signNext v m f tgt r = none) (k : Nat) : signRun v m f tgt k r = r := by
  cases k with
  | zero => rfl
  | succ k => rw [signRun, h]

theorem signNext_drawVinegar (h : r.phase = .drawVinegar) :
    signNext v m f tgt r = if v ≤ r.rng.length then
      some { r with phase := .buildSystem, xv := r.rng.take v, rng := r.rng.drop v, steps := r.steps + 1 }
    else none := by rw [signNext, h]

theorem signNext_buildSystem (h : r.phase = .buildSystem) :
    signNext v m f tgt r
      = some { r with phase := .solve, a := sysMat v m f r.xv, b := sysVec v f r.xv tgt, steps := r.steps + 1 } := by
  rw [signNext, h]

theorem signNext_solve_singular (h : r.phase = .solve) (hsing : minv m r.a = none)
    (hbudget : r.attempt < Config.signBudget) :
    signNext v m f tgt r = some { r with phase := .retry, steps := r.steps + 1 } := by
  simp only [signNext, h, hsing, if_pos hbudget]

theorem signNext_retry (h : r.phase = .retry) :
    signNext v m f tgt r = some { r with phase := .drawVinegar, attempt := r.attempt + 1, steps := r.steps + 1 } := by
  rw [signNext, h]

end SignRun

/-! ### The system of an attempt -/

section Attempt
variable (s : State)

/-- Byte d of record number i of the central map at a pointer register (20_memory R65). -/
theorem readMap_record_byte (pf : PReg) {i d : Nat} (hi : i < s.mDim) (hd : d < s.psz) :
    ((s.readBytes (s.ptr pf) s.mapSize).drop (i * s.psz)).getD d 0#8
      = s.omemByte (baseOf s pf + i * pszOf s + d) := by
  rw [getD_drop]
  refine (readBytes_getD s _ _ _ (rowMajor_lt hi hd)).trans ?_
  rw [← Nat.add_assoc]
  rfl

/-- `coef` of record number i, over the bytes of the record. -/
theorem coef_record (pf : PReg) (hdim : DimOK s) (xv : Vec) {i j : Nat} (hi : i < s.mDim) (hj : j < s.mDim) :
    coef s.vDim (polyOfBytes s.nDim s.vDim ((s.readBytes (s.ptr pf) s.mapSize).drop (i * s.psz))) xv j
      = coefOn s (baseOf s pf + i * pszOf s) (vecAt xv) j := by
  obtain ⟨-, -, -, hvn, hoil⟩ := hdim
  change s.vDim ≤ s.nDim at hvn
  change s.nDim - s.vDim = s.mDim at hoil
  have hpsz : s.psz = s.vDim * s.vDim + s.vDim * (s.nDim - s.vDim) + s.nDim + 1 := rfl
  have hvo (k : Nat) (hk : k < s.vDim) :
      matAt (matOfBytes s.vDim (s.nDim - s.vDim)
        (((s.readBytes (s.ptr pf) s.mapSize).drop (i * s.psz)).drop (s.vDim * s.vDim))) k j
      = s.omemByte (baseOf s pf + i * pszOf s + s.vDim * s.vDim + k * (s.nDim - s.vDim) + j) := by
    have hindex := rowMajor_lt hk (hoil.symm ▸ hj : j < s.nDim - s.vDim)
    rw [matOfBytes, matAt_matOf hk (by omega), getD_drop, readMap_record_byte s pf hi (by omega)]
    congr 1
    omega
  have hlin : vecAt (vecOf s.nDim fun k => ((s.readBytes (s.ptr pf) s.mapSize).drop (i * s.psz)).getD
        (s.vDim * s.vDim + s.vDim * (s.nDim - s.vDim) + k) 0#8) (s.vDim + j)
      = s.omemByte (baseOf s pf + i * pszOf s + s.vDim * s.vDim + s.vDim * (s.nDim - s.vDim) + (s.vDim + j)) := by
    rw [vecAt_vecOf (by omega), readMap_record_byte s pf hi (by omega)]
    congr 1
    omega
  exact congrArg₂ (· ^^^ ·) (xorUpTo_congr fun k hk => congrArg (fmul · _) (hvo k hk)) hlin

/-- The system matrix of attempt number a, over the bytes of the stream and of the central map. -/
theorem sysMat_attempt (pf : PReg) (hdim : DimOK s) (a : Nat) :
    sysMat s.vDim s.mDim (s.readMap pf) ((s.rng.drop (a * s.vDim)).take s.vDim) = attemptMat s pf a := by
  rw [sysMat, State.readMap, mapOfBytes, List.map_map]
  refine List.map_congr_left fun i hi => vecOf_congr fun j hj => ?_
  refine (coef_record s pf hdim _ (List.mem_range.1 hi) hj).trans ?_
  refine congrArg (· ^^^ _) (xorUpTo_congr fun k hk => congrArg (fmul _) ?_)
  exact getD_take_drop _ _ hk

end Attempt

section Sign
variable (s : State) (pf pt : PReg)

/-- The run stands at the draw of attempt number j + 1. -/
def SignAtDraw (j : Nat) (r : SignRun) : Prop :=
  r.phase = .drawVinegar ∧ r.attempt = j + 1 ∧ r.rng = s.rng.drop (j * s.vDim)

variable {s}

/-- A pass of R191 over a singular system with attempts left is four arrows. -/
theorem signRun_singular_pass {j : Nat} {r : SignRun} (hdim : DimOK s) (h : SignAtDraw s j r)
    (hbudget : j + 1 < Config.signBudget) (hbytes : (j + 1) * s.vDim ≤ s.rng.length)
    (hsing : minv s.mDim (attemptMat s pf j) = none) :
    SignAtDraw s (j + 1) (signRun s.vDim s.mDim (s.readMap pf) (s.readVec pt s.mDim) 4 r) := by
  obtain ⟨hphase, hattempt, hrng⟩ := h
  rw [Nat.succ_mul] at hbytes
  have henough : s.vDim ≤ r.rng.length := by rw [hrng, List.length_drop]; omega
  have hsystem : minv s.mDim (sysMat s.vDim s.mDim (s.readMap pf) (r.rng.take s.vDim)) = none := by
    rw [hrng, sysMat_attempt s pf hdim]; exact hsing
  rw [signRun_of_some ((signNext_drawVinegar hphase).trans (if_pos henough)),
    signRun_of_some (signNext_buildSystem rfl),
    signRun_of_some (signNext_solve_singular rfl hsystem (hattempt.symm ▸ hbudget)),
    signRun_of_some (signNext_retry rfl)]
  refine ⟨rfl, congrArg (· + 1) hattempt, ?_⟩
  change r.rng.drop s.vDim = _
  rw [hrng, List.drop_drop, Nat.succ_mul]

/-- After j singular attempts the run stands at the draw of the next one. -/
theorem signRunFor_draw (hdim : DimOK s) (j : Nat) (hbudget : j < Config.signBudget)
    (hbytes : j * s.vDim ≤ s.rng.length) (hsing : ∀ k, k < j → minv s.mDim (attemptMat s pf k) = none) :
    SignAtDraw s j (s.signRunFor pf pt (4 * j)) := by
  induction j with
  | zero => exact ⟨rfl, rfl, by simp [State.signRunFor, signRun, State.signStart]⟩
  | succ j ih =>
    have hfewer : j * s.vDim ≤ s.rng.length := by rw [Nat.succ_mul] at hbytes; omega
    have hdraw := ih (by omega) hfewer fun k hk => hsing k (by omega)
    rw [Nat.mul_succ, State.signRunFor, signRun_add]
    exact signRun_singular_pass pf pt hdim hdraw hbudget hbytes (hsing j (by omega))

/-- With bytes for j singular attempts and not for another, the run waits for the vinegar of attempt j + 1. -/
theorem signRunFor_waits (hdim : DimOK s) {j fuel : Nat} (hbudget : j < Config.signBudget)
    (hbytes : j * s.vDim ≤ s.rng.length) (hshort : s.rng.length < (j + 1) * s.vDim)
    (hsing : ∀ k, k < j → minv s.mDim (attemptMat s pf k) = none) (hfuel : 4 * j ≤ fuel) :
    (s.signRunFor pf pt fuel).phase = .drawVinegar ∧ (s.signRunFor pf pt fuel).attempt = j + 1 := by
  obtain ⟨hphase, hattempt, hrng⟩ := signRunFor_draw pf pt hdim j hbudget hbytes hsing
  obtain ⟨more, rfl⟩ := Nat.exists_eq_add_of_le hfuel
  rw [Nat.succ_mul] at hshort
  have hwaits : ¬ s.vDim ≤ (s.signRunFor pf pt (4 * j)).rng.length := by rw [hrng, List.length_drop]; omega
  have hrun : s.signRunFor pf pt (4 * j + more) = s.signRunFor pf pt (4 * j) := by
    rw [State.signRunFor, signRun_add]
    exact signRun_of_none ((signNext_drawVinegar hphase).trans (if_neg hwaits)) more
  rw [hrun]
  exact ⟨hphase, hattempt⟩

variable {pf pt}

/-- A SIGN whose run waits for bytes shows its attempt and its state of R191 and stays in flight. -/
theorem execSign_waits {ps pi : PReg} (hdim : DimOK s) (htgt : s.tgtLen = s.dimM) (hfits : SignFits s ps pf pi pt)
    (hphase : (s.signRunFor pf pt signFuel).phase = .drawVinegar) :
    exec (.sign ps pf pi pt) s = .next { s with
      phase := .drawVinegar, attempt := BitVec.ofNat 32 (s.signRunFor pf pt signFuel).attempt
      progress := (s.signRunFor pf pt signFuel).steps + 1 } := by
  change execSign ps pf pi pt s = _
  rw [execSign, withChecks_of_none (signChecks_pass hdim htgt hfits)]
  simp only [hphase]

theorem sign_stays_in_flight {ps pi : PReg} (hdim : DimOK s) (htgt : s.tgtLen = s.dimM)
    (hfits : SignFits s ps pf pi pt) (hshort : s.rng.length < 1000 * s.vDim)
    (hsing : ∀ k, (k + 1) * s.vDim ≤ s.rng.length → minv s.mDim (attemptMat s pf k) = none) :
    ∃ t, exec (.sign ps pf pi pt) s = .next t ∧ StaysInFlight s t ∧ t.rng = s.rng ∧ t.phase = .drawVinegar
      ∧ t.attempt = BitVec.ofNat 32 (s.rng.length / s.vDim + 1) := by
  have hv : 0 < s.vDim := hdim.2.1
  have hle := Nat.div_mul_le_self s.rng.length s.vDim
  have hlt := Nat.lt_mul_of_div_lt (Nat.lt_add_one (s.rng.length / s.vDim)) hv
  have hbudget : s.rng.length / s.vDim < 1000 := (Nat.div_lt_iff_lt_mul hv).2 hshort
  obtain ⟨hphase, hattempt⟩ := signRunFor_waits pf pt hdim (fuel := signFuel) hbudget hle hlt
    (fun k hk => hsing k (le_trans (Nat.mul_le_mul_right _ hk) hle)) (by change _ ≤ 4 * 1000; omega)
  refine ⟨_, execSign_waits hdim htgt hfits hphase, staysInFlight_of_progress s _ _ _, rfl, rfl, ?_⟩
  exact congrArg (BitVec.ofNat 32) hattempt

end Sign

/-- Settles O42, from the two runs that wait; an RNG byte is an event of its own. -/
theorem shortOfRngBytesStaysInFlight : Obligations.ShortOfRngBytesStaysInFlight :=
  ⟨fun _ _ _ _ hdim hfits hbudget hsing => keygen_stays_in_flight hdim hfits hbudget hsing,
    fun _ _ _ _ _ hdim htgt hfits hshort hsing => sign_stays_in_flight hdim htgt hfits hshort hsing,
    fun _ _ _ hagenda => nextEvent_cons hagenda⟩

end Sys2Proof.Machine

/-! PROOFS of the statements about OMEM on the HOST port and about the platform bus (20_memory). -/
namespace Sys2Proof.Machine

/-! ## OMEM on the HOST port (R77) -/

section HostMem
variable {s : State} {addr : Nat} {rest : List Event}

theorem step_memRead_inside (hagenda : s.agenda = .host (.memRead addr) :: rest) (hidle : s.busy = false)
    (hin : addr < s.params.omemSize) :
    step s = .next { s with answers := .mem (s.omemByte addr) :: s.answers, agenda := rest } := by
  rw [step_host hagenda, hostTransaction, hostMemRead, if_neg (by simp [hidle]), if_pos hin]
  rfl

theorem step_memRead_beyond (hagenda : s.agenda = .host (.memRead addr) :: rest) (hidle : s.busy = false)
    (hout : s.params.omemSize ≤ addr) :
    step s = .next { s with haz := true, answers := .mem 0x00#8 :: s.answers, agenda := rest } := by
  rw [step_host hagenda, hostTransaction, hostMemRead, if_neg (by simp [hidle]), if_neg (Nat.not_lt.2 hout)]
  rfl

theorem step_memRead_busy (hagenda : s.agenda = .host (.memRead addr) :: rest) (hbusy : s.busy = true) :
    step s = .next { s with
      haz := true, answers := .mem (Config.freeByte s.freeCount) :: s.answers, freeCount := s.freeCount + 1
      agenda := rest } := by
  rw [step_host hagenda, hostTransaction, hostMemRead, if_pos hbusy]
  rfl

theorem step_memWrite_inside {b : Byte} (hagenda : s.agenda = .host (.memWrite addr b) :: rest)
    (hidle : s.busy = false) (hin : addr < s.params.omemSize) :
    step s = .next { s.writeBytes addr [b] with agenda := rest } := by
  rw [step_host hagenda, hostTransaction, hostMemWrite, if_neg (by simp [hidle]), if_pos hin]
  rfl

/-- A write while BUSY or beyond OMEM_SIZE sets HAZ and nothing else. -/
theorem step_memWrite_ignored {b : Byte} (hagenda : s.agenda = .host (.memWrite addr b) :: rest)
    (h : s.busy = true ∨ s.params.omemSize ≤ addr) : step s = .next { s with haz := true, agenda := rest } := by
  rw [step_host hagenda, hostTransaction, hostMemWrite]
  rcases h with hbusy | hout
  · rw [if_pos hbusy]; rfl
  · rw [if_neg (Nat.not_lt.2 hout), ite_self]; rfl

end HostMem

/-- A write changes no byte of OMEM outside its region. -/
theorem writeBytes_sameOmemOutside (s : State) (base : Nat) (bs : List Byte) :
    SameOmemOutside base bs.length s (s.writeBytes base bs) := by
  intro a hout
  rw [omemByte_writeBytes, if_neg hout]

/-- A byte of the region reads as the byte written there. -/
theorem omemByte_writeBytes_inside (s : State) (base : Nat) (bs : List Byte) {k : Nat} (hk : k < bs.length) :
    (s.writeBytes base bs).omemByte (base + k) = bs.getD k 0#8 := by
  rw [omemByte_writeBytes, if_pos (by omega), Nat.add_sub_cancel_left]

/-- Settles O11: the transaction is the next step, and it is one of the cases of R77. -/
theorem hostOmemAccessFollowsItsRule : Obligations.HostOmemAccessFollowsItsRule := by
  intro s addr rest
  refine ⟨fun hagenda => ⟨fun hidle hin => ?_, fun hidle hout => ?_, fun hbusy => ?_⟩,
    fun b hagenda => ⟨fun hidle hin => ?_, fun hidle hout => ?_, fun hbusy => ?_⟩⟩
  · exact step_memRead_inside hagenda hidle hin
  · exact step_memRead_beyond hagenda hidle hout
  · exact ⟨_, _, step_memRead_busy hagenda hbusy⟩
  · exact ⟨_, step_memWrite_inside hagenda hidle hin, omemByte_writeBytes_inside s addr [b] Nat.zero_lt_one,
      writeBytes_sameOmemOutside s addr [b], rfl⟩
  · exact step_memWrite_ignored hagenda (.inr hout)
  · exact step_memWrite_ignored hagenda (.inl hbusy)

/-! ## Steps one after another -/

theorem stepAll_succ {s t : State} (h : step s = .next t) (k : Nat) : stepAll (k + 1) s = stepAll k t := by
  rw [stepAll, h]

theorem stepAll_add {k : Nat} {s t : State} (h : stepAll k s = some t) (j : Nat) :
    stepAll (k + j) s = stepAll j t := by
  induction k generalizing s with
  | zero => cases h; rw [Nat.zero_add]
  | succ k ih =>
    rw [Nat.succ_add]
    cases hstep : step s with
    | next u =>
      rw [stepAll_succ hstep] at h ⊢
      exact ih h
    | fault f => simp [stepAll, hstep] at h
    | refused r => simp [stepAll, hstep] at h

/-- Idle reads inside OMEM answer the bytes, the newest first, and change nothing else. -/
theorem stepAll_memReads {s : State} {addrs : List Nat} {rest : List Event} (hidle : s.busy = false)
    (hin : ∀ a ∈ addrs, a < s.params.omemSize)
    (hagenda : s.agenda = addrs.map (fun a => .host (.memRead a)) ++ rest) :
    stepAll addrs.length s = some { s with
      answers := (addrs.map (fun a => HostAnswer.mem (s.omemByte a))).reverse ++ s.answers, agenda := rest } := by
  induction addrs generalizing s with
  | nil => subst hagenda; rfl
  | cons a addrs ih =>
    obtain ⟨ha, haddrs⟩ := List.forall_mem_cons.1 hin
    rw [List.length_cons, stepAll_succ (step_memRead_inside hagenda hidle ha)]
    refine (ih ?_ ?_ rfl).trans ?_
    · exact hidle
    · exact haddrs
    · simp [State.omemByte]

/-- Idle writes inside OMEM store the bytes and change nothing else. -/
theorem stepAll_memWrites {s : State} {base : Nat} {bs : List Byte} {rest : List Event} (hidle : s.busy = false)
    (hin : base + bs.length ≤ s.params.omemSize) (hagenda : s.agenda = memWrites base bs ++ rest) :
    stepAll bs.length s = some { s.writeBytes base bs with agenda := rest } := by
  induction bs generalizing s base with
  | nil => subst hagenda; rfl
  | cons b bs ih =>
    rw [List.length_cons] at hin
    have hbase : base < s.params.omemSize := by omega
    rw [List.length_cons, stepAll_succ (step_memWrite_inside hagenda hidle hbase)]
    exact ih hidle (by change base + 1 + bs.length ≤ s.params.omemSize; omega) rfl

theorem memWrites_map_range (base n : Nat) (f : Nat → Byte) :
    memWrites base ((List.range n).map f) = (List.range n).map (fun k => .host (.memWrite (base + k) (f k))) := by
  induction n generalizing base f with
  | zero => rfl
  | succ n ih =>
    rw [List.range_succ_eq_map]
    simp only [List.map_cons, List.map_map, memWrites, ih]
    simp [Function.comp_def, Nat.add_assoc, Nat.add_comm 1]

/-! ## The platform bus (R62, R66, R67)

An access is translated once (`busTransactions_…`), the translation is one step (`step_bus`), and the HOST transactions
it leaves on the agenda are the runs above. -/

theorem BusWidth.bytes_le_four (width : BusWidth) : width.bytes ≤ 4 := by cases width <;> decide

theorem touchesCsrs_iff (p : Params) (a : BusAccess) :
    a.touchesCsrs p = true ↔ ¬ MissesCsrs p a.addr a.width.bytes := by
  simp only [BusAccess.touchesCsrs, MissesCsrs, Bool.and_eq_true, decide_eq_true_eq]
  omega

/-! ### The translation of an access -/

section Translation
variable {p : Params} {a : BusAccess}

/-- The word at HOST_BASE + 4*i is in the CSR window, is aligned, and its index is i. -/
theorem csrWord_place {idx : BitVec 8} (hword : a.width = .word) (haddr : a.addr = p.hostBase + 4 * idx.toNat) :
    a.touchesCsrs p = true ∧ (a.width = .word ∧ p.hostBase ≤ a.addr ∧ (a.addr - p.hostBase) % 4 = 0)
      ∧ BitVec.ofNat 8 ((a.addr - p.hostBase) / 4) = idx := by
  have hidx := idx.isLt
  have hoffset : a.addr - p.hostBase = 4 * idx.toNat := by omega
  refine ⟨(touchesCsrs_iff p a).2 ?_, ⟨hword, by omega, by omega⟩, ?_⟩
  · rw [hword, haddr]
    simp only [MissesCsrs, BusWidth.bytes]
    omega
  · rw [hoffset, Nat.mul_div_cancel_left _ (by decide), BitVec.ofNat_toNat, BitVec.setWidth_eq]

/-- The one transaction of an access to CSR i. -/
theorem busTransactions_csrWord {idx : BitVec 8} (hword : a.width = .word)
    (haddr : a.addr = p.hostBase + 4 * idx.toNat) :
    (a.data = none → busTransactions p a = .next [.csrRead idx])
    ∧ ∀ w, a.data = some w → busTransactions p a = .next [.csrWrite idx w] := by
  obtain ⟨htouches, haligned, hidx⟩ := csrWord_place hword haddr
  refine ⟨fun hdata => ?_, fun w hdata => ?_⟩ <;>
    rw [busTransactions, if_pos htouches, if_pos haligned, hidx, hdata]

/-- An aligned word with a byte in the CSR window is one of its 256 words. -/
theorem busTransactions_refused (htouches : ¬ MissesCsrs p a.addr a.width.bytes)
    (hnoWord : ∀ idx : BitVec 8, ¬ (a.width = .word ∧ a.addr = p.hostBase + 4 * idx.toNat)) :
    busTransactions p a = .refused .busCsrNotWord := by
  rw [busTransactions, if_pos ((touchesCsrs_iff p a).2 htouches), if_neg]
  rintro ⟨hword, hbase, haligned⟩
  refine hnoWord (BitVec.ofNat 8 ((a.addr - p.hostBase) / 4)) ⟨hword, ?_⟩
  unfold MissesCsrs at htouches
  rw [BitVec.toNat_ofNat, Nat.mod_eq_of_lt (by omega)]
  omega

theorem busTransactions_unmapped (hmiss : MissesCsrs p a.addr a.width.bytes)
    (hout : ¬ (p.omemWindowBase ≤ a.addr ∧ a.addr + a.width.bytes ≤ p.omemWindowBase + p.omemSize)) :
    busTransactions p a = .fault .busUnmapped := by
  rw [busTransactions, if_neg fun h => (touchesCsrs_iff p a).1 h hmiss, if_neg hout]

/-- The transactions of an access inside the OMEM window, one for each byte in ascending order. -/
theorem busTransactions_omem {x : Nat} (hmiss : MissesCsrs p a.addr a.width.bytes)
    (haddr : a.addr = p.omemWindowBase + x) (hin : x + a.width.bytes ≤ p.omemSize) :
    (a.data = none → busTransactions p a = .next ((List.range a.width.bytes).map (fun k => .memRead (x + k))))
    ∧ ∀ w, a.data = some w →
      busTransactions p a = .next ((List.range a.width.bytes).map (fun k => .memWrite (x + k) (busByte w k))) := by
  have hwindow : p.omemWindowBase ≤ a.addr ∧ a.addr + a.width.bytes ≤ p.omemWindowBase + p.omemSize := by omega
  have hoffset : a.addr - p.omemWindowBase = x := by omega
  refine ⟨fun hdata => ?_, fun w hdata => ?_⟩ <;>
    rw [busTransactions, if_neg fun h => (touchesCsrs_iff p a).1 h hmiss, if_pos hwindow, hoffset, hdata]

end Translation

/-! ### The step of an access -/

theorem busReply_memReads (width : BusWidth) (x : Nat) :
    busReply width ((List.range width.bytes).map (fun k => .memRead (x + k))) = [.busAnswer width] := by
  cases width <;> rfl

theorem busReply_memWrites (width : BusWidth) (x : Nat) (f : Nat → Byte) :
    busReply width ((List.range width.bytes).map (fun k => .memWrite (x + k) (f k))) = [] := by
  cases width <;> rfl

section Step
variable {s : State} {a : BusAccess} {rest : List Event}

/-- A translated access puts its transactions and its answer at the front of the agenda. -/
theorem step_bus (hagenda : s.agenda = .bus a :: rest) {ts : List HostTx} (hts : busTransactions s.params a = .next ts) :
    step s = .next { s with agenda := ts.map Event.host ++ (busReply a.width ts ++ rest) } := by
  refine (nextEvent_cons hagenda).trans ?_
  simp [handleEvent, busAccess, hts]

theorem step_bus_fault (hagenda : s.agenda = .bus a :: rest) {f : Fault} (hf : busTransactions s.params a = .fault f) :
    step s = .fault f := by
  refine (nextEvent_cons hagenda).trans ?_
  simp [handleEvent, busAccess, hf]

theorem step_bus_refused (hagenda : s.agenda = .bus a :: rest) {r : Refusal}
    (hr : busTransactions s.params a = .refused r) : step s = .refused r := by
  refine (nextEvent_cons hagenda).trans ?_
  simp [handleEvent, busAccess, hr]

variable {x : Nat}

theorem step_bus_omemRead (hagenda : s.agenda = .bus a :: rest) (hmiss : MissesCsrs s.params a.addr a.width.bytes)
    (haddr : a.addr = s.params.omemWindowBase + x) (hin : x + a.width.bytes ≤ s.params.omemSize)
    (hdata : a.data = none) :
    step s = .next { s with
      agenda := (List.range a.width.bytes).map (fun k => .host (.memRead (x + k))) ++ .busAnswer a.width :: rest } := by
  rw [step_bus hagenda ((busTransactions_omem hmiss haddr hin).1 hdata), busReply_memReads, List.map_map]
  rfl

theorem step_bus_omemWrite (hagenda : s.agenda = .bus a :: rest) (hmiss : MissesCsrs s.params a.addr a.width.bytes)
    (haddr : a.addr = s.params.omemWindowBase + x) (hin : x + a.width.bytes ≤ s.params.omemSize)
    {w : Word} (hdata : a.data = some w) :
    step s = .next { s with
      agenda := (List.range a.width.bytes).map (fun k => .host (.memWrite (x + k) (busByte w k))) ++ rest } := by
  rw [step_bus hagenda ((busTransactions_omem hmiss haddr hin).2 w hdata), busReply_memWrites, List.map_map]
  rfl

end Step

/-! ### The word of a read -/

/-- The bits of a bus word beyond its bytes are 0. -/
theorem busWord_toNat_lt (bs : List Byte) : (busWord bs).toNat < 2 ^ (8 * bs.length) := by
  induction bs with
  | nil => simp [busWord]
  | cons b bs ih =>
    have hpow : 2 ^ (8 * (b :: bs).length) = 2 ^ (8 * bs.length) * 2 ^ 8 := by
      rw [List.length_cons, Nat.mul_succ, Nat.pow_add]
    rw [busWord, BitVec.toNat_or]
    refine Nat.or_lt_two_pow ?_ ?_
    · rw [BitVec.toNat_shiftLeft, Nat.shiftLeft_eq]
      exact lt_of_le_of_lt (Nat.mod_le _ _) (by omega)
    · rw [BitVec.toNat_setWidth_of_le (by decide)]
      exact lt_of_lt_of_le b.isLt (Nat.pow_le_pow_right (by decide) (by simp))

/-- After the bytes of a read have been answered, the first of them longest ago, the bus hands on their word. -/
theorem step_busAnswer {s : State} {width : BusWidth} {rest : List Event} {bs : List Byte} {old : List HostAnswer}
    (hagenda : s.agenda = .busAnswer width :: rest) (hlen : bs.length = width.bytes)
    (hanswers : s.answers = (bs.map HostAnswer.mem).reverse ++ old) :
    step s = .next { s with answers := .bus (busWord bs) :: s.answers, agenda := rest } := by
  have htake : s.answers.take width.bytes = (bs.map HostAnswer.mem).reverse := by
    rw [hanswers, List.take_left' (by simpa using hlen)]
  have hbyte : HostAnswer.byte ∘ HostAnswer.mem = id := rfl
  refine (nextEvent_cons hagenda).trans ?_
  rw [handleEvent, busAnswer, htake, List.reverse_reverse, List.map_map, hbyte, List.map_id]

/-! ### The run of an access to OMEM -/

/-- Idle byte reads at x and their answer hand on the word of the n bytes. -/
theorem stepAll_busRead {s : State} {x : Nat} {width : BusWidth} {rest : List Event} (hidle : s.busy = false)
    (hin : x + width.bytes ≤ s.params.omemSize)
    (hagenda : s.agenda
      = (List.range width.bytes).map (fun k => .host (.memRead (x + k))) ++ .busAnswer width :: rest) :
    stepAll (width.bytes + 1) s = some { s with
      answers := .bus (busWord (s.readBytes x width.bytes))
        :: ((s.readBytes x width.bytes).map HostAnswer.mem).reverse ++ s.answers
      agenda := rest } := by
  have haddrs : ∀ a ∈ (List.range width.bytes).map (x + ·), a < s.params.omemSize := by
    simp only [List.mem_map, List.mem_range]
    omega
  have hreads := stepAll_memReads (rest := .busAnswer width :: rest) hidle haddrs
    (by rw [hagenda, List.map_map]; rfl)
  rw [List.length_map, List.length_range] at hreads
  have hbytes : ((List.range width.bytes).map (x + ·)).map (fun a => HostAnswer.mem (s.omemByte a))
      = (s.readBytes x width.bytes).map HostAnswer.mem := by simp [State.readBytes]
  rw [hbytes] at hreads
  exact (stepAll_add hreads 1).trans (stepAll_succ (step_busAnswer rfl (readBytes_length s x _) rfl) 0)

/-- Idle byte writes of n bytes at x are one write of the n bytes. -/
theorem stepAll_busWrite {s : State} {x n : Nat} {f : Nat → Byte} {rest : List Event} (hidle : s.busy = false)
    (hin : x + n ≤ s.params.omemSize)
    (hagenda : s.agenda = (List.range n).map (fun k => .host (.memWrite (x + k) (f k))) ++ rest) :
    stepAll n s = some { s.writeBytes x ((List.range n).map f) with agenda := rest } := by
  have hlen : ((List.range n).map f).length = n := by simp
  have hwrites := stepAll_memWrites (bs := (List.range n).map f) hidle (by rwa [hlen])
    (by rw [hagenda, memWrites_map_range])
  rwa [hlen] at hwrites

section Run
variable {s : State} {a : BusAccess} {rest : List Event} {x : Nat}

/-- An idle bus read of OMEM hands on the word of its bytes (R62). -/
theorem busRead_answers_word (hagenda : s.agenda = .bus a :: rest)
    (hmiss : MissesCsrs s.params a.addr a.width.bytes) (haddr : a.addr = s.params.omemWindowBase + x)
    (hin : x + a.width.bytes ≤ s.params.omemSize) (hdata : a.data = none) (hidle : s.busy = false) :
    ∃ t w, stepAll (a.width.bytes + 2) s = some t ∧ t.answers.head? = some (.bus w)
      ∧ (∀ k, k < a.width.bytes → w.extractLsb' (8 * k) 8 = s.omemByte (x + k)) ∧ w.toNat < 2 ^ (8 * a.width.bytes)
      ∧ { t with answers := s.answers } = { s with agenda := rest } := by
  have hstep := step_bus_omemRead hagenda hmiss haddr hin hdata
  have hbits := busWord_toNat_lt (s.readBytes x a.width.bytes)
  rw [readBytes_length] at hbits
  have hwidth := a.width.bytes_le_four
  refine ⟨_, _, (stepAll_succ hstep _).trans (stepAll_busRead hidle hin rfl), rfl, fun k hk => ?_, hbits, rfl⟩
  exact (busWord_byte _ k (by omega)).trans (readBytes_getD s x _ k hk)

/-- An idle bus write of OMEM stores the bytes of its word (R62). -/
theorem busWrite_stores_bytes (hagenda : s.agenda = .bus a :: rest)
    (hmiss : MissesCsrs s.params a.addr a.width.bytes) (haddr : a.addr = s.params.omemWindowBase + x)
    (hin : x + a.width.bytes ≤ s.params.omemSize) {w : Word} (hdata : a.data = some w) (hidle : s.busy = false) :
    ∃ t, stepAll (a.width.bytes + 1) s = some t ∧ SameOmemOutside x a.width.bytes s t
      ∧ (∀ k, k < a.width.bytes → t.omemByte (x + k) = w.extractLsb' (8 * k) 8)
      ∧ { t with omem := s.omem } = { s with agenda := rest } := by
  have hstep := step_bus_omemWrite hagenda hmiss haddr hin hdata
  have hlen : ((List.range a.width.bytes).map (busByte w)).length = a.width.bytes := by simp
  have houtside := writeBytes_sameOmemOutside s x ((List.range a.width.bytes).map (busByte w))
  rw [hlen] at houtside
  refine ⟨_, (stepAll_succ hstep _).trans (stepAll_busWrite hidle hin rfl), houtside, fun k hk => ?_, rfl⟩
  refine (omemByte_writeBytes_inside s x _ (by rwa [hlen])).trans ?_
  simp [hk, busByte]

end Run

/-- Settles O60: the translation of the access gives its step, and the runs above what the steps after it do. -/
theorem platformBusMapsTheTwoSpaces : Obligations.PlatformBusMapsTheTwoSpaces := by
  intro s a rest hagenda n
  refine ⟨fun idx hword haddr => ⟨fun hdata => ?_, fun w hdata => ?_⟩, fun htouches hnoWord => ?_,
    fun hmiss hout => ?_, fun x hmiss haddr hin => ⟨fun hdata => ⟨?_, fun hidle => ?_⟩,
      fun w hdata => ⟨?_, fun hidle => ?_⟩⟩⟩
  · exact step_bus hagenda ((busTransactions_csrWord hword haddr).1 hdata)
  · exact step_bus hagenda ((busTransactions_csrWord hword haddr).2 w hdata)
  · exact step_bus_refused hagenda (busTransactions_refused htouches hnoWord)
  · exact step_bus_fault hagenda (busTransactions_unmapped hmiss hout)
  · exact step_bus_omemRead hagenda hmiss haddr hin hdata
  · exact busRead_answers_word hagenda hmiss haddr hin hdata hidle
  · exact step_bus_omemWrite hagenda hmiss haddr hin hdata
  · exact busWrite_stores_bytes hagenda hmiss haddr hin hdata hidle

end Sys2Proof.Machine

/-! PROOFS of the statements about the command word, the opcode table and the pseudo-instructions (30_encoding). -/
namespace Sys2Proof.Machine

/-! ## Words and fields (R90, R93) -/

theorem joinWord_injective : Function.Injective joinWord := Function.LeftInverse.injective splitWord_joinWord

theorem splitWord_injective : Function.Injective splitWord := Function.LeftInverse.injective joinWord_splitWord

/-- The high part of a joined value. -/
theorem extractLsb'_append_high {n k : Nat} (x : BitVec n) (y : BitVec k) : (x ++ y).extractLsb' k n = x := by
  rw [BitVec.extractLsb'_append_eq_of_le (Nat.le_refl k), Nat.sub_self, BitVec.extractLsb'_eq_self]

/-- The low part of a joined value. -/
theorem extractLsb'_append_low {n k : Nat} (x : BitVec n) (y : BitVec k) : (x ++ y).extractLsb' 0 k = y := by
  rw [BitVec.extractLsb'_append_eq_of_add_le (Nat.zero_add k).le, BitVec.extractLsb'_eq_self]

/-- The fields of a 16-bit immediate are those it was joined from: both sides join to the same word. -/
theorem fieldsImm16_imm16 (f : Fields) : fieldsImm16 f.op f.f5 f.f4 f.imm16 = f :=
  joinWord_injective (congrArg (fun imm => f.op ++ (f.f5 ++ (f.f4 ++ imm))) (join16 f.imm16))

/-- The same for a 12-bit immediate, below a zero f3. -/
theorem fieldsImm12_imm12 {f : Fields} (hzero : f.f3 = 0#4) : fieldsImm12 f.op f.f5 f.f4 f.imm12 = f :=
  joinWord_injective (by
    rw [joinWord, joinWord, hzero]
    exact congrArg (fun imm => f.op ++ (f.f5 ++ (f.f4 ++ (0#4 ++ imm)))) (join12 f.imm12))

/-! ## Decoding and encoding (R94, R95, R101) -/

theorem ifZero_eq_some {zs : List (BitVec 4)} {i j : Instr} :
    ifZero zs i = some j ↔ (∀ x ∈ zs, x = 0#4) ∧ i = j := by
  rw [ifZero_eq, Option.ite_none_right_eq_some, Option.some_inj]

/-- The arm of a command's opcode finds the must-be-zero fields zero and reads the operands back: a register is its
field, an immediate is joined from its nibbles. -/
theorem decodeFields_encodeFields (i : Instr) : decodeFields (encodeFields i) = some i := by
  cases i with
  | gli d imm => exact congrArg (fun x => some (Instr.gli d x)) (join8 imm)
  | gld d a imm => exact congrArg (fun x => some (Instr.gld d a x)) (join12 imm)
  | gst d a imm => exact congrArg (fun x => some (Instr.gst d a x)) (join12 imm)
  | paddi d a imm => exact congrArg (fun x => some (Instr.paddi d a x)) (join12 imm)
  | pli d imm => exact congrArg (fun x => some (Instr.pli d x)) (join16 imm)
  | plui d imm => exact congrArg (fun x => some (Instr.plui d x)) (join16 imm)
  | csrw csr imm => exact congrArg₂ (fun c x => some (Instr.csrw c x)) (join8 csr) (join16 imm)
  | nop | gmv | pmv | fadd | fsub | fmul | finv | mvmul | minv | msolve | fgen | peval | pevala | keygen | drawv
  | buildsys | sign | verify => rfl

/-- Each arm of the decoder fixes the opcode and the must-be-zero fields, and its operands hold all other fields. The
arms named below are those with an immediate, in the table's order: GLI (2), the 12-bit ones (4, 5, 8), PLI and PLUI
(6, 7) and CSRW (10), whose index is joined too. -/
theorem encodeFields_of_decodeFields {f : Fields} {i : Instr} (h : decodeFields f = some i) : encodeFields i = f := by
  obtain ⟨op, f5, f4, f3, f2, f1, f0⟩ := f
  unfold decodeFields at h
  split at h
  case h_26 => cases h
  all_goals
    rename_i hop
    obtain ⟨-, rfl⟩ := BitVec.toNat_eq_nat.1 hop
    obtain ⟨hzero, rfl⟩ := ifZero_eq_some.1 h
    simp only [List.forall_mem_cons, List.not_mem_nil, IsEmpty.forall_iff, implies_true, and_true] at hzero
  case h_2 =>
    obtain ⟨rfl, rfl, rfl⟩ := hzero
    exact congrArg₂ (Fields.mk 0x01#8 f5 0#4 0#4 0#4) (extractLsb'_append_high f1 f0) (extractLsb'_append_low f1 f0)
  case h_4 | h_5 | h_8 => exact fieldsImm12_imm12 (f := ⟨_, f5, f4, f3, f2, f1, f0⟩) hzero
  case h_6 | h_7 =>
    subst hzero
    exact fieldsImm16_imm16 ⟨_, f5, 0#4, f3, f2, f1, f0⟩
  case h_10 =>
    rw [encodeFields, Fields.csr, extractLsb'_append_high, extractLsb'_append_low]
    exact fieldsImm16_imm16 ⟨_, f5, f4, f3, f2, f1, f0⟩
  all_goals simp [encodeFields, fieldsRegs, hzero]

/-- Settles O14: the word's fields are the command's, which decode to it. -/
theorem decodeOfEncodeIsTheCommand : Obligations.DecodeOfEncodeIsTheCommand := fun i => by
  rw [decode_encode_fields, decodeFields_encodeFields]

/-- Settles O15: the command's fields are the word's, and a word is the join of its fields. -/
theorem encodeOfDecodeIsTheWord : Obligations.EncodeOfDecodeIsTheWord := fun w i h => by
  rw [encode, encodeFields_of_decodeFields h, joinWord_splitWord]

/-! ## The rows of the table (R94, R101) -/

/-- The bitwise and of a word, on its fields. -/
def andFields (f m : Fields) : Fields :=
  ⟨f.op &&& m.op, f.f5 &&& m.f5, f.f4 &&& m.f4, f.f3 &&& m.f3, f.f2 &&& m.f2, f.f1 &&& m.f1, f.f0 &&& m.f0⟩

theorem splitWord_and (w m : Word) : splitWord (w &&& m) = andFields (splitWord w) (splitWord m) := by
  simp only [splitWord, andFields, BitVec.extractLsb'_and]

/-- A word matches a row exactly when each of its fields does. -/
theorem match_iff_fields (w : Word) (r : OpcodeRow) :
    w &&& r.mask = r.pattern ↔ andFields (splitWord w) (splitWord r.mask) = splitWord r.pattern := by
  rw [← splitWord_and, splitWord_injective.eq_iff]

theorem isSome_ifZero (zs : List (BitVec 4)) (i : Instr) : (ifZero zs i).isSome = true ↔ ∀ x ∈ zs, x = 0#4 := by
  rw [ifZero_eq, Option.isSome_ite]

theorem and_ones4 (x : BitVec 4) : x &&& 0xF#4 = x := BitVec.and_allOnes

theorem and_ones8 (x : BitVec 8) : x &&& 0xFF#8 = x := BitVec.and_allOnes

/-- The fields that the arm of an opcode requires to be zero are those that the row of that opcode masks: written out
over the fields, the rows are one clause for each opcode, and the last arm is reached by none of them. -/
theorem decodeFields_isSome (f : Fields) :
    (decodeFields f).isSome = true ↔ ∃ r ∈ opcodeRows, andFields f (splitWord r.mask) = splitWord r.pattern := by
  simp only [opcodeRows, BitVec.ofNat_eq_ofNat, List.cons_append, List.nil_append, List.mem_cons, List.not_mem_nil,
    or_false, andFields, splitWord, Fields.mk.injEq, exists_eq_or_imp, BitVec.reduceExtractLsb', and_ones8,
    BitVec.extractLsb'_zero, and_ones4, BitVec.and_zero, and_self, and_true, true_and, exists_eq_left]
  unfold decodeFields
  split
  case h_26 => simp_all [BitVec.toNat_eq_nat]
  all_goals
    rename_i hop
    obtain ⟨-, hop⟩ := BitVec.toNat_eq_nat.1 hop
    simp [isSome_ifZero, hop]

theorem decode_isSome (w : Word) : (decode w).isSome = true ↔ ∃ r ∈ opcodeRows, w &&& r.mask = r.pattern := by
  simp only [match_iff_fields]
  exact decodeFields_isSome (splitWord w)

/-- A word is illegal exactly when it matches no row (R96). -/
theorem decode_eq_none {w : Word} : decode w = none ↔ ∀ r ∈ opcodeRows, w &&& r.mask ≠ r.pattern := by
  rw [← Option.not_isSome_iff_eq_none, decode_isSome]
  simp

/-! ### The opcodes of the rows (R94) -/

theorem row_mask_op : ∀ r ∈ opcodeRows, r.mask.extractLsb' 24 8 = 0xFF#8 := by decide

theorem row_pattern_low : ∀ r ∈ opcodeRows, r.pattern.extractLsb' 0 24 = 0#24 := by decide

theorem row_op_assigned : ∀ r ∈ opcodeRows, (r.pattern.extractLsb' 24 8).toNat ∈ assignedOps := by decide

theorem row_ops_nodup : (opcodeRows.map (fun r => r.pattern.extractLsb' 24 8)).Nodup := by decide

/-- Every row masks the whole opcode, so a word that matches it has the row's opcode. -/
theorem op_of_match {w : Word} {r : OpcodeRow} (hr : r ∈ opcodeRows) (hmatch : w &&& r.mask = r.pattern) :
    w.extractLsb' 24 8 = r.pattern.extractLsb' 24 8 := by
  rw [← hmatch, BitVec.extractLsb'_and, row_mask_op r hr, and_ones8]

/-- Settles O13: rows differ in their opcodes, so a word that matches two rows would have two opcodes. -/
theorem decoderAcceptsExactlyTheTable : Obligations.DecoderAcceptsExactlyTheTable := by
  refine ⟨decode_isSome, (List.pairwise_map.1 row_ops_nodup).imp_of_mem ?_⟩
  rintro r q hr hq hne w ⟨hmatchR, hmatchQ⟩
  exact hne ((op_of_match hr hmatchR).symm.trans (op_of_match hq hmatchQ))

/-! ## Illegal words (R96) -/

/-- A command word written while the block is idle and without error is accepted (60_exceptions R262). -/
theorem step_csrWrite_cmd {s : State} {w : Word} {rest : List Event} (hidle : s.busy = false) (herr : s.err = false)
    (hagenda : s.agenda = .host (.csrWrite 0x05#8 w) :: rest) :
    step s = .next (acceptCommand w { s with agenda := rest }) := by
  have hwrite : hostCsrWrite 0x05#8 w { s with agenda := rest }
      = if s.busy then State.setHaz { s with agenda := rest } else writeCmd w { s with agenda := rest } := rfl
  rw [step_host hagenda, hostTransaction, hwrite, hidle, if_neg Bool.false_ne_true, writeCmd,
    if_neg (by simp [herr])]

/-- The engine's turn at a word that matches no row. -/
theorem step_illegalWord {s : State} {rest : List Event} (hbusy : s.busy = true)
    (hill : ∀ r ∈ opcodeRows, s.cmd &&& r.mask ≠ r.pattern) (hagenda : s.agenda = .engine :: rest) :
    step s = .next (raiseError .illegalCommand { s with agenda := rest }) := by
  refine (nextEvent_cons hagenda).trans ?_
  rw [handleEvent, engineTurn, if_pos hbusy, decode_eq_none.2 hill]

/-- Settles O12: a word can only match the row of its own opcode, and what matches no row does not decode. -/
theorem illegalWordFaults : Obligations.IllegalWordFaults := by
  refine ⟨fun w hop r hr hmatch => ?_, fun w r hr hop hlow q hq hmatch => ?_, fun s rest hbusy hill hagenda => ?_,
    fun s w rest hidle herr hill hagenda => ?_⟩
  · exact hop (op_of_match hr hmatch ▸ row_op_assigned r hr)
  · obtain rfl : q = r := List.inj_on_of_nodup_map row_ops_nodup hq hr ((op_of_match hq hmatch).symm.trans hop)
    exact hlow (hmatch ▸ row_pattern_low q hq)
  · exact ⟨_, step_illegalWord hbusy hill hagenda, raiseError_latches _ _, ⟨rfl, rfl, rfl⟩, rfl⟩
  · exact ⟨_, _, step_csrWrite_cmd hidle herr hagenda, rfl, rfl, step_illegalWord rfl hill rfl, rfl, rfl, rfl, rfl,
      fun _ => rfl, fun _ => rfl, fun _ => rfl, rfl⟩

/-! ## Pseudo-instructions (R100) -/

theorem execAll_cons {i : Instr} {s t : State} (h : exec i s = .next t) (rest : List Instr) :
    execAll (i :: rest) s = execAll rest t := by
  rw [execAll, h]

theorem writesG_writeG (s : State) (d : GReg) (x : Byte) : WritesG d x s (s.writeG d x) :=
  ⟨by rw [readG_writeG, if_pos rfl], fun r hr => by rw [readG_writeG, if_neg hr]⟩

theorem writesP_writeP (s : State) (d : PReg) (x : Word) : WritesP d x s (s.writeP d x) :=
  ⟨by rw [readP_writeP, if_pos rfl], fun r hr => by rw [readP_writeP, if_neg hr]⟩

/-- The second of two writes of the same pointer register is the one that stays. -/
theorem WritesP.trans {d : PReg} {x y : Word} {s t u : State} (h₁ : WritesP d x s t) (h₂ : WritesP d y t u) :
    WritesP d y s u :=
  ⟨h₂.1, fun r hr => (h₂.2 r hr).trans (h₁.2 r hr)⟩

theorem join_halves (imm : Word) : imm.extractLsb' 16 16 ++ imm.extractLsb' 0 16 = imm := by
  rw [BitVec.extractLsb'_append_extractLsb'_eq_extractLsb' (by decide)]
  exact BitVec.extractLsb'_eq_self

/-- A CSRW of a shape register is the plain write of that register (46 R239). -/
theorem exec_csrw_shape {csr : BitVec 8} (hshape : isShapeCsr csr = true) (imm : BitVec 16) (s : State) :
    exec (.csrw csr imm) s = .next (completeCommand (writePlainCsr (csrOfIndex csr) (imm.setWidth 32) s)) :=
  withChecks_of_none (by rw [firstError_cons, if_pos hshape, firstError_nil]) _ _

theorem low_half_of_wide (x : BitVec 16) : (x.setWidth 32).extractLsb' 0 16 = x := by
  rw [BitVec.setWidth_eq_append (by decide)]
  exact extractLsb'_append_low _ x

theorem low_byte_of_wide (x : BitVec 16) : (x.setWidth 32).setWidth 8 = x.setWidth 8 :=
  BitVec.setWidth_setWidth_of_le x (by decide)

theorem expandPseudo_pla_short {imm : Word} (hhigh : imm.extractLsb' 16 16 = 0#16) (pd : PReg) :
    expandPseudo (.pla pd imm) = [.pli pd (imm.extractLsb' 0 16)] := by
  rw [expandPseudo, if_pos hhigh]

theorem expandPseudo_pla_long {imm : Word} (hhigh : imm.extractLsb' 16 16 ≠ 0#16) (pd : PReg) :
    expandPseudo (.pla pd imm) = [.pli pd (imm.extractLsb' 0 16), .plui pd (imm.extractLsb' 16 16)] := by
  rw [expandPseudo, if_neg hhigh]

theorem exec_pli_writes (pd : PReg) (imm : BitVec 16) (s : State) :
    ∃ t, exec (.pli pd imm) s = .next t ∧ WritesP pd (imm.setWidth 32) s t ∧ SameG s t :=
  ⟨_, rfl, writesP_writeP s pd _, fun _ => rfl⟩

theorem exec_plui_writes (pd : PReg) (imm : BitVec 16) (s : State) :
    ∃ t, exec (.plui pd imm) s = .next t ∧ WritesP pd (imm ++ (s.readP pd).extractLsb' 0 16) s t ∧ SameG s t :=
  ⟨_, rfl, writesP_writeP s pd _, fun _ => rfl⟩

/-- PLI writes the low half below zeros; PLUI, where the upper half needs it, puts that half above what PLI wrote. -/
theorem pla_loads_address (pd : PReg) (imm : Word) (s : State) :
    ∃ t, execAll (expandPseudo (.pla pd imm)) s = some t ∧ WritesP pd imm s t ∧ SameG s t := by
  obtain ⟨t, hpli, hwrite, hsame⟩ := exec_pli_writes pd (imm.extractLsb' 0 16) s
  by_cases hhigh : imm.extractLsb' 16 16 = 0#16
  · have hvalue : (imm.extractLsb' 0 16).setWidth 32 = imm := by
      rw [BitVec.setWidth_eq_append (by decide)]
      exact hhigh ▸ join_halves imm
    rw [hvalue] at hwrite
    exact ⟨t, by rw [expandPseudo_pla_short hhigh, execAll_cons hpli, execAll], hwrite, hsame⟩
  · obtain ⟨u, hplui, hwrite', hsame'⟩ := exec_plui_writes pd (imm.extractLsb' 16 16) t
    rw [hwrite.1, low_half_of_wide, join_halves] at hwrite'
    exact ⟨u, by rw [expandPseudo_pla_long hhigh, execAll_cons hpli, execAll_cons hplui, execAll],
      hwrite.trans hwrite', fun r => (hsame' r).trans (hsame r)⟩

theorem setdim_sets_dimensions (n v m : BitVec 16) (s : State) :
    ∃ t, execAll (expandPseudo (.setdim n v m)) s = some t
      ∧ t.dimN = n.setWidth 8 ∧ t.dimV = v.setWidth 8 ∧ t.dimM = m.setWidth 8 := by
  rw [expandPseudo, execAll_cons (exec_csrw_shape rfl n s), execAll_cons (exec_csrw_shape rfl v _),
    execAll_cons (exec_csrw_shape rfl m _)]
  exact ⟨_, rfl, low_byte_of_wide n, low_byte_of_wide v, low_byte_of_wide m⟩

theorem setla_sets_shape (r c : BitVec 16) (s : State) :
    ∃ t, execAll (expandPseudo (.setla r c)) s = some t ∧ t.laRows = r.setWidth 8 ∧ t.laCols = c.setWidth 8 := by
  rw [expandPseudo, execAll_cons (exec_csrw_shape rfl r s), execAll_cons (exec_csrw_shape rfl c _)]
  exact ⟨_, rfl, low_byte_of_wide r, low_byte_of_wide c⟩

/-- Settles O59: the lists are the definition's, and each runs command by command. -/
theorem pseudoInstructionsExpandRight : Obligations.PseudoInstructionsExpandRight := by
  intro s
  refine ⟨fun pd imm => ⟨(expandPseudo_pla_short · pd), (expandPseudo_pla_long · pd)⟩,
    fun _ _ => ⟨rfl, rfl, rfl⟩, fun _ _ _ => rfl, fun _ _ => rfl, fun pd imm => pla_loads_address pd imm s,
    fun gd => ?_, fun gd ga => ?_, fun gd ga => ?_, fun n v m => setdim_sets_dimensions n v m s,
    fun r c => setla_sets_shape r c s⟩
  · exact ⟨_, rfl, writesG_writeG s gd 0x00#8⟩
  · exact ⟨_, rfl, writesG_writeG s gd (s.readG ga)⟩
  · exact ⟨_, rfl, writesG_writeG s gd (fmul (s.readG ga) (s.readG ga))⟩

end Sys2Proof.Machine

/-! PROOFS of the statements about field arithmetic (40_field_arithmetic): the laws of the four field functions, and the
commands that use them. -/
namespace Sys2Proof.Machine

/-! ## Addition (R120, R121) -/

/-- Settles O24: both functions are the xor of bit vectors. -/
theorem fieldAdditionIsXor : Obligations.FieldAdditionIsXor := fun a b c =>
  ⟨rfl, rfl, rfl, BitVec.xor_comm a b, BitVec.xor_assoc a b c, BitVec.xor_zero, BitVec.xor_self⟩

/-! ## Multiplication (R122)

The loop of R122 adds up the doublings of `a` that the bits of `b` select. Doubling respects xor, so whatever respects
xor and doubling passes through the loop. Multiplication by a fixed right factor is such a map: two right factors
commute, and with 01 neutral this gives every law. -/

/-- The product with 02: shifted left, and reduced if bit 7 was set. -/
def double (a : Byte) : Byte := if a.getLsbD 7 = true then (a <<< 1) ^^^ 0x1D#8 else a <<< 1

/-- `x` where the bit is set, and 00 elsewhere. -/
def gate (p : Bool) (x : Byte) : Byte := if p = true then x else 0#8

theorem gate_xor_bits (p q : Bool) (x : Byte) : gate (p ^^ q) x = gate p x ^^^ gate q x := by
  cases p <;> cases q <;> simp [gate]

theorem gate_xor_bytes (p : Bool) (x y : Byte) : gate p (x ^^^ y) = gate p x ^^^ gate p y := by
  cases p <;> simp [gate]

theorem double_eq (a : Byte) : double a = (a <<< 1) ^^^ gate (a.getLsbD 7) 0x1D#8 := by
  unfold double gate
  split <;> simp

theorem double_xor (a b : Byte) : double (a ^^^ b) = double a ^^^ double b := by
  simp only [double_eq, BitVec.shiftLeft_xor_distrib, BitVec.getLsbD_xor, gate_xor_bits]
  ac_rfl

/-- The 9-bit working value of R122 is a byte with bit 8 clear, and its shift is the doubling of that byte. -/
theorem fmulShift_setWidth (a : Byte) : fmulShift (a.setWidth 9) = (double a).setWidth 9 := by
  revert a
  decide +kernel

/-- The xor of the doublings of `a` that the lowest `k` bits of `b` select. -/
def mulBits : Nat → Byte → Byte → Byte
  | 0, _, _ => 0#8
  | k + 1, a, b => gate (b.getLsbD 0) a ^^^ mulBits k (double a) (b >>> 1)

theorem fmulLoop_eq_mulBits (k : Nat) (acc a b : Byte) :
    fmulLoop k acc (a.setWidth 9) b = acc ^^^ mulBits k a b := by
  induction k generalizing acc a b with
  | zero => exact BitVec.xor_zero.symm
  | succ k ih =>
    rw [fmulLoop, fmulShift_setWidth, ih, mulBits, ← BitVec.xor_assoc]
    cases b.getLsbD 0 <;> simp [gate]

theorem fmul_eq_mulBits (a b : Byte) : fmul a b = mulBits 8 a b := by
  rw [fmul, fmulLoop_eq_mulBits, BitVec.zero_xor]

theorem map_zero_of_xor {f : Byte → Byte} (hxor : ∀ a b, f (a ^^^ b) = f a ^^^ f b) : f 0#8 = 0#8 := by
  have h := hxor 0#8 0#8
  rwa [BitVec.xor_self, BitVec.xor_self] at h

/-- A map that respects xor and doubling passes through the loop. -/
theorem map_mulBits {f : Byte → Byte} (hxor : ∀ a b, f (a ^^^ b) = f a ^^^ f b)
    (hdouble : ∀ a, f (double a) = double (f a)) (k : Nat) (a b : Byte) : f (mulBits k a b) = mulBits k (f a) b := by
  induction k generalizing a b with
  | zero => exact map_zero_of_xor hxor
  | succ k ih => rw [mulBits, mulBits, hxor, ih, hdouble, gate, gate, apply_ite f, map_zero_of_xor hxor]

theorem mulBits_xor_left (k : Nat) (a b c : Byte) : mulBits k (a ^^^ b) c = mulBits k a c ^^^ mulBits k b c := by
  induction k generalizing a b c with
  | zero => exact BitVec.xor_self.symm
  | succ k ih =>
    simp only [mulBits, double_xor, gate_xor_bytes, ih]
    ac_rfl

theorem fmul_xor_left (a b c : Byte) : fmul (a ^^^ b) c = fmul a c ^^^ fmul b c := by
  simp only [fmul_eq_mulBits, mulBits_xor_left]

theorem fmul_double_left (a b : Byte) : fmul (double a) b = double (fmul a b) := by
  simp only [fmul_eq_mulBits, map_mulBits double_xor fun _ => rfl]

theorem fmul_right_comm (a b c : Byte) : fmul (fmul a b) c = fmul (fmul a c) b := by
  rw [fmul_eq_mulBits a b, fmul_eq_mulBits (fmul a c) b]
  exact map_mulBits (f := (fmul · c)) (fmul_xor_left · · c) (fmul_double_left · c) 8 a b

theorem one_fmul (a : Byte) : fmul 0x01#8 a = a := by
  revert a
  decide +kernel

theorem fmul_comm (a b : Byte) : fmul a b = fmul b a :=
  calc fmul a b
    _ = fmul (fmul 0x01#8 a) b := by rw [one_fmul]
    _ = fmul (fmul 0x01#8 b) a := fmul_right_comm _ a b
    _ = fmul b a := by rw [one_fmul]

theorem fmul_assoc (a b c : Byte) : fmul (fmul a b) c = fmul a (fmul b c) :=
  calc fmul (fmul a b) c
    _ = fmul (fmul b a) c := by rw [fmul_comm a b]
    _ = fmul (fmul b c) a := fmul_right_comm b a c
    _ = fmul a (fmul b c) := fmul_comm _ a

theorem fmul_one (a : Byte) : fmul a 0x01#8 = a := (fmul_comm a _).trans (one_fmul a)

theorem zero_fmul (a : Byte) : fmul 0x00#8 a = 0x00#8 := map_zero_of_xor (f := (fmul · a)) (fmul_xor_left · · a)

theorem fmul_zero (a : Byte) : fmul a 0x00#8 = 0x00#8 := (fmul_comm a _).trans (zero_fmul a)

theorem fmul_xor_right (a b c : Byte) : fmul a (b ^^^ c) = fmul a b ^^^ fmul a c := by
  rw [fmul_comm, fmul_xor_left, fmul_comm b, fmul_comm c]

theorem fmul_two (a : Byte) : fmul a 0x02#8 = double a :=
  calc fmul a 0x02#8
    _ = fmul (double 0x01#8) a := fmul_comm a _
    _ = double (fmul 0x01#8 a) := fmul_double_left _ a
    _ = double a := by rw [one_fmul]

/-! ## Powers and the inverse (R123)

Squaring is additive and multiplicative, and the eighth squaring fixes 02, so it passes through the loop and fixes every
byte: the power 256 of `a` is `a`. Then `fmul a (finv a)`, the power 255, is idempotent, and only 00 and 01 are. -/

theorem fmul_self_fmul (a b : Byte) : fmul (fmul a b) (fmul a b) = fmul (fmul a a) (fmul b b) :=
  calc fmul (fmul a b) (fmul a b)
    _ = fmul (fmul (fmul a b) a) b := (fmul_assoc _ a b).symm
    _ = fmul (fmul (fmul a a) b) b := by rw [fmul_right_comm a b a]
    _ = fmul (fmul a a) (fmul b b) := fmul_assoc _ b b

theorem fmul_self_xor (a b : Byte) : fmul (a ^^^ b) (a ^^^ b) = fmul a a ^^^ fmul b b := by
  have hcross : fmul a b ^^^ fmul b a = 0#8 := by rw [fmul_comm, BitVec.xor_self]
  calc fmul (a ^^^ b) (a ^^^ b)
    _ = (fmul a a ^^^ fmul a b) ^^^ (fmul b a ^^^ fmul b b) := by rw [fmul_xor_left, fmul_xor_right, fmul_xor_right]
    _ = fmul a a ^^^ fmul b b ^^^ (fmul a b ^^^ fmul b a) := by ac_rfl
    _ = fmul a a ^^^ fmul b b := by rw [hcross, BitVec.xor_zero]

theorem fpow2_fmul (k : Nat) (a b : Byte) : fpow2 k (fmul a b) = fmul (fpow2 k a) (fpow2 k b) := by
  induction k generalizing a b with
  | zero => rfl
  | succ k ih => rw [fpow2, fmul_self_fmul, ih, fpow2, fpow2]

theorem fpow2_xor (k : Nat) (a b : Byte) : fpow2 k (a ^^^ b) = fpow2 k a ^^^ fpow2 k b := by
  induction k generalizing a b with
  | zero => rfl
  | succ k ih => rw [fpow2, fmul_self_xor, ih, fpow2, fpow2]

theorem fpow2_eight_double (a : Byte) : fpow2 8 (double a) = double (fpow2 8 a) := by
  have hgen : fpow2 8 0x02#8 = 0x02#8 := by decide +kernel
  rw [← fmul_two, fpow2_fmul, hgen, fmul_two]

/-- The power 256 of a byte is the byte, which is the sum of the doublings of 01 that its bits select. -/
theorem fpow2_eight (a : Byte) : fpow2 8 a = a := by
  have hone : fpow2 8 0x01#8 = 0x01#8 := by decide +kernel
  have hbits : mulBits 8 0x01#8 a = a := by rw [← fmul_eq_mulBits, one_fmul]
  calc fpow2 8 a
    _ = fpow2 8 (mulBits 8 0x01#8 a) := by rw [hbits]
    _ = mulBits 8 (fpow2 8 0x01#8) a := map_mulBits (fpow2_xor 8) fpow2_eight_double 8 _ a
    _ = a := by rw [hone, hbits]

theorem fmul_fpow2_self (k : Nat) (a : Byte) : fmul (fpow2 k a) (fpow2 k a) = fpow2 (k + 1) a := by
  rw [fpow2, fpow2_fmul]

/-- Two more factors `a` make the product of R123 telescope to the power 256. -/
theorem fmul_fmul_finv_self (a : Byte) : fmul a (fmul a (finv a)) = a := by
  have carry (k : Nat) (b : Byte) : fmul (fpow2 k a) (fmul (fpow2 k a) b) = fmul (fpow2 (k + 1) a) b := by
    rw [← fmul_assoc, fmul_fpow2_self]
  calc fmul a (fmul a (finv a))
    _ = fmul (fpow2 1 a) (finv a) := carry 0 _
    _ = fmul (fpow2 7 a) (fpow2 7 a) := by rw [finv, carry, carry, carry, carry, carry, carry]
    _ = a := by rw [fmul_fpow2_self, fpow2_eight]

/-- The ring of bytes has no idempotents but its 0 and its 1. -/
theorem eq_zero_or_one_of_idempotent : ∀ {e : Byte}, fmul e e = e → e = 0x00#8 ∨ e = 0x01#8 := by decide +kernel

theorem fmul_finv {a : Byte} (ha : a ≠ 0x00#8) : fmul a (finv a) = 0x01#8 := by
  have hidem : fmul (fmul a (finv a)) (fmul a (finv a)) = fmul a (finv a) := by
    rw [fmul_right_comm, fmul_fmul_finv_self]
  refine (eq_zero_or_one_of_idempotent hidem).resolve_left fun hzero => ha ?_
  rw [← fmul_fmul_finv_self a, hzero, fmul_zero]

/-- A product with a non-zero factor gives the other factor back. -/
theorem fmul_fmul_finv {a : Byte} (ha : a ≠ 0x00#8) (b : Byte) : fmul (fmul a b) (finv a) = b := by
  rw [fmul_right_comm, fmul_finv ha, one_fmul]

theorem eq_finv_of_fmul_eq_one {a b : Byte} (h : fmul a b = 0x01#8) : b = finv a := by
  have ha : a ≠ 0x00#8 := by
    rintro rfl
    rw [zero_fmul] at h
    exact absurd h (by decide)
  rw [← fmul_fmul_finv ha b, h, one_fmul]

/-- Settles O25: with a zero product, the factor that a non-zero one leaves is zero. -/
theorem fieldMultiplicationLaws : Obligations.FieldMultiplicationLaws := fun a b c =>
  ⟨fmul_comm a b, fmul_assoc a b c, fmul_one a, fmul_zero a,
    fun h => or_iff_not_imp_left.2 fun ha => by rw [← fmul_fmul_finv ha b, h, zero_fmul],
    fmul_xor_right a b c, fmul_two a⟩

/-- Settles O26: `a` itself has the product 01 with its inverse, so it is the inverse of that. -/
theorem fieldInverseIsUnique : Obligations.FieldInverseIsUnique :=
  ⟨(eq_finv_of_fmul_eq_one (one_fmul _)).symm, fun a ha =>
    ⟨fmul_finv ha, fun _ => eq_finv_of_fmul_eq_one,
      (eq_finv_of_fmul_eq_one ((fmul_comm _ a).trans (fmul_finv ha))).symm⟩⟩

/-! ## The commands (R124 to R127) -/

theorem encodesAs_of_encode_eq {i : Instr} {w : Word} (h : encode i = w) : EncodesAs i w :=
  ⟨h, h ▸ decodeOfEncodeIsTheCommand i⟩

/-- The word of a command with three register operands. -/
theorem joinWord_fieldsRegs_three (op : BitVec 8) (f5 f4 f3 : BitVec 4) :
    joinWord (fieldsRegs op f5 f4 f3 0 0) = op ++ (f5 ++ (f4 ++ (f3 ++ 0#12))) :=
  have low : 0#4 ++ (0#4 ++ 0#4) = 0#12 := rfl
  congrArg (fun low => op ++ (f5 ++ (f4 ++ (f3 ++ low)))) low

/-- The word of a command with two register operands. -/
theorem joinWord_fieldsRegs_two (op : BitVec 8) (f5 f4 : BitVec 4) :
    joinWord (fieldsRegs op f5 f4 0 0 0) = op ++ (f5 ++ (f4 ++ 0#16)) :=
  have low : 0#4 ++ (0#4 ++ (0#4 ++ 0#4)) = 0#16 := rfl
  congrArg (fun low => op ++ (f5 ++ (f4 ++ low))) low

/-- Completing after a write of one G register changes that register and the completion flags. -/
theorem completeCommand_writeG (s : State) (d : GReg) (x : Byte) :
    CompletesPlain s (completeCommand (s.writeG d x)) ∧ SameP s (completeCommand (s.writeG d x))
      ∧ SameOmem s (completeCommand (s.writeG d x)) ∧ WritesG d x s (completeCommand (s.writeG d x)) :=
  ⟨⟨completes_of rfl rfl rfl ⟨rfl, rfl, rfl, rfl, rfl, rfl, rfl, rfl, rfl⟩,
      ⟨⟨rfl, rfl, rfl, rfl, rfl⟩, rfl, rfl⟩, ⟨rfl, rfl, rfl⟩, rfl⟩,
    fun _ => rfl, fun _ => rfl, writesG_writeG s d x⟩

/-- Settles O27: each of the three is one completed write of its G register. -/
theorem fieldAddSubMulCommands : Obligations.FieldAddSubMulCommands := fun gd ga gb s =>
  ⟨encodesAs_of_encode_eq (joinWord_fieldsRegs_three ..), encodesAs_of_encode_eq (joinWord_fieldsRegs_three ..),
    encodesAs_of_encode_eq (joinWord_fieldsRegs_three ..),
    ⟨_, rfl, completeCommand_writeG s gd (fadd (s.readG ga) (s.readG gb))⟩,
    ⟨_, rfl, completeCommand_writeG s gd (fsub (s.readG ga) (s.readG gb))⟩,
    ⟨_, rfl, completeCommand_writeG s gd (fmul (s.readG ga) (s.readG gb))⟩⟩

theorem exec_finv_zero {s : State} {ga : GReg} (h : s.readG ga = 0x00#8) (gd : GReg) :
    exec (.finv gd ga) s = .next (raiseError .fieldInverse s) :=
  withChecks_of_some (by rw [firstError_cons, if_neg (by simp [h])]) _ _

theorem exec_finv_nonzero {s : State} {ga : GReg} (h : s.readG ga ≠ 0x00#8) (gd : GReg) :
    exec (.finv gd ga) s = .next (completeCommand (s.writeG gd (finv (s.readG ga)))) :=
  withChecks_of_none (by rw [firstError_cons, if_pos (bne_iff_ne.2 h), firstError_nil]) _ _

/-- Settles O28: the value written is `finv` of the source, which is the one inverse. -/
theorem fieldInverseCommand : Obligations.FieldInverseCommand := fun gd ga s => by
  refine ⟨encodesAs_of_encode_eq (joinWord_fieldsRegs_two ..), fun hzero => ?_, fun hnonzero => ?_⟩
  · exact ⟨_, exec_finv_zero hzero gd, raiseError_latches _ s, ⟨rfl, rfl, rfl⟩, rfl⟩
  · obtain ⟨hplain, hp, homem, hwrite⟩ := completeCommand_writeG s gd (finv (s.readG ga))
    exact ⟨_, _, exec_finv_nonzero hnonzero gd, hplain, hp, homem, hwrite, fmul_finv hnonzero,
      fun _ => eq_finv_of_fmul_eq_one⟩

end Sys2Proof.Machine

/-! PROOFS of the statements about the linear algebra engine (41_linear_algebra): what `minv` computes, and the three
commands. -/
namespace Sys2Proof.Machine

/-! ## Matrices times vectors (R140) -/

theorem xorUpTo_xor (k : Nat) (e e' : Nat → Byte) :
    xorUpTo k (fun j => e j ^^^ e' j) = xorUpTo k e ^^^ xorUpTo k e' := by
  induction k with
  | zero => exact BitVec.xor_self.symm
  | succ k ih =>
    simp only [xorUpTo, ih]
    ac_rfl

theorem fmul_xorUpTo (a : Byte) (k : Nat) (e : Nat → Byte) :
    fmul a (xorUpTo k e) = xorUpTo k (fun j => fmul a (e j)) := by
  induction k with
  | zero => exact fmul_zero a
  | succ k ih => rw [xorUpTo, xorUpTo, fmul_xor_right, ih]

theorem xorUpTo_zero (k : Nat) : xorUpTo k (fun _ => 0x00#8) = 0x00#8 := by
  induction k with
  | zero => rfl
  | succ k ih => rw [xorUpTo, ih, BitVec.xor_zero]

/-- A sum with one summand that is not 00. -/
theorem xorUpTo_single {k i : Nat} (hi : i < k) (a : Byte) :
    xorUpTo k (fun j => if i = j then a else 0x00#8) = a := by
  induction k with
  | zero => exact absurd hi (Nat.not_lt_zero i)
  | succ k ih =>
    rw [xorUpTo]
    rcases Nat.lt_succ_iff_lt_or_eq.1 hi with hlt | rfl
    · rw [ih hlt, if_neg (by omega), BitVec.xor_zero]
    · have hrest : xorUpTo i (fun j => if i = j then a else 0x00#8) = 0x00#8 :=
        (xorUpTo_congr fun j hj => if_neg (by omega)).trans (xorUpTo_zero i)
      rw [hrest, if_pos rfl, BitVec.zero_xor]

/-- Element i of the product of a matrix with `c` columns and a vector. -/
def rowProd (c : Nat) (m : Mat) (x : Vec) (i : Nat) : Byte := xorUpTo c (fun j => fmul (matAt m i j) (vecAt x j))

theorem vecAt_matvec {r c i : Nat} (hi : i < r) (m : Mat) (x : Vec) : vecAt (matvec r c m x) i = rowProd c m x i :=
  vecAt_vecOf hi _

theorem matAt_identityMat {k i j : Nat} (hi : i < k) (hj : j < k) :
    matAt (identityMat k) i j = if i = j then 0x01#8 else 0x00#8 := matAt_matOf hi hj _

/-- Two vectors of length k are equal when their elements are. -/
theorem vec_ext {k : Nat} {x y : Vec} (hx : x.length = k) (hy : y.length = k)
    (h : ∀ i, i < k → vecAt x i = vecAt y i) : x = y := by
  subst hx
  refine List.ext_getElem hy.symm fun i hi hi' => ?_
  simpa [vecAt, hi, hi'] using h i hi

theorem matvec_eq_iff {r c : Nat} {m : Mat} {x y : Vec} (hy : y.length = r) :
    matvec r c m x = y ↔ ∀ i, i < r → rowProd c m x i = vecAt y i := by
  refine ⟨?_, fun h => vec_ext (matvec_length r c m x) hy fun i hi => (vecAt_matvec hi m x).trans (h i hi)⟩
  rintro rfl i hi
  exact (vecAt_matvec hi m x).symm

/-- A matrix whose row i is the unit row picks element i. -/
theorem rowProd_of_unit_row {k i : Nat} (hi : i < k) {m : Mat}
    (hrow : ∀ j, j < k → matAt m i j = if i = j then 0x01#8 else 0x00#8) (x : Vec) : rowProd k m x i = vecAt x i :=
  calc rowProd k m x i
    _ = xorUpTo k (fun j => if i = j then vecAt x i else 0x00#8) := xorUpTo_congr fun j hj => by
        rw [hrow j hj]
        split
        · next h => rw [h, one_fmul]
        · exact zero_fmul _
    _ = vecAt x i := xorUpTo_single hi _

/-- The product is linear in the vector (R142 e). -/
theorem rowProd_vecOf_xor (k : Nat) (m : Mat) (e e' : Nat → Byte) (i : Nat) :
    rowProd k m (vecOf k fun j => e j ^^^ e' j) i = rowProd k m (vecOf k e) i ^^^ rowProd k m (vecOf k e') i := by
  rw [rowProd, rowProd, rowProd, ← xorUpTo_xor]
  exact xorUpTo_congr fun j hj => by rw [vecAt_vecOf hj, vecAt_vecOf hj, vecAt_vecOf hj, fmul_xor_right]

/-- The vector of length k with 00 everywhere. -/
def zeroVec (k : Nat) : Vec := vecOf k fun _ => 0x00#8

@[simp] theorem zeroVec_length (k : Nat) : (zeroVec k).length = k := vecOf_length ..

theorem rowProd_zeroVec (k : Nat) (m : Mat) (i : Nat) : rowProd k m (zeroVec k) i = 0x00#8 :=
  (xorUpTo_congr fun j hj => by rw [zeroVec, vecAt_vecOf hj, fmul_zero]).trans (xorUpTo_zero k)

theorem matvec_zeroVec (k : Nat) (m : Mat) : matvec k k m (zeroVec k) = zeroVec k :=
  vecOf_congr fun i _ => rowProd_zeroVec k m i

/-- The vector of length k with 01 at j and 00 elsewhere. -/
def unitVec (k j : Nat) : Vec := vecOf k fun l => if j = l then 0x01#8 else 0x00#8

@[simp] theorem unitVec_length (k j : Nat) : (unitVec k j).length = k := vecOf_length ..

theorem rowProd_unitVec {k j : Nat} (hj : j < k) (m : Mat) (i : Nat) : rowProd k m (unitVec k j) i = matAt m i j :=
  calc rowProd k m (unitVec k j) i
    _ = xorUpTo k (fun l => if j = l then matAt m i j else 0x00#8) := xorUpTo_congr fun l hl => by
        rw [unitVec, vecAt_vecOf hl]
        split
        · next h => rw [h, fmul_one]
        · exact fmul_zero _
    _ = matAt m i j := xorUpTo_single hj _

/-- Matrices with the same products have the same elements. -/
theorem matAt_eq_of_matvec_eq {k : Nat} {e e' : Mat}
    (h : ∀ y : Vec, y.length = k → matvec k k e' y = matvec k k e y) {i j : Nat} (hi : i < k) (hj : j < k) :
    matAt e' i j = matAt e i j := by
  have hcol := congrArg (vecAt · i) (h (unitVec k j) (unitVec_length k j))
  simpa only [vecAt_matvec hi, rowProd_unitVec hj] using hcol

/-! ## The row operations of R141

Each is given by what it does to the elements of a column; products follow, because they are sums over columns. -/

/-- The first k rows have k elements. -/
def HasRows (k : Nat) (m : Mat) : Prop := ∀ i, i < k → (matRow m i).length = k

/-- Row i of a matrix given row by row. -/
theorem matRow_map_range {k i : Nat} (hi : i < k) (f : Nat → Vec) : matRow ((List.range k).map f) i = f i := by
  simp [matRow, hi]

theorem hasRows_matOf (k : Nat) (e : Nat → Nat → Byte) : HasRows k (matOf k k e) := fun i hi => by
  rw [matOf, matRow_map_range hi, vecOf_length]

section RowOperations
variable {k p c i : Nat} {m : Mat}

theorem matRow_swapRows (hi : i < k) : matRow (swapRows k p c m) i = matRow m (Equiv.swap p c i) := by
  rw [swapRows, matRow_map_range hi, Equiv.swap_apply_def]
  split
  · rfl
  · split <;> rfl

/-- The swap of two rows stays among the first k. -/
theorem swap_lt (hp : p < k) (hc : c < k) (hi : i < k) : Equiv.swap p c i < k := by
  rw [Equiv.swap_apply_def]
  split
  · exact hc
  · split
    · exact hp
    · exact hi

theorem hasRows_swapRows (hm : HasRows k m) (hp : p < k) (hc : c < k) : HasRows k (swapRows k p c m) := fun i hi => by
  rw [matRow_swapRows hi, hm _ (swap_lt hp hc hi)]

theorem matAt_swapRows (hi : i < k) (j : Nat) : matAt (swapRows k p c m) i j = matAt m (Equiv.swap p c i) j :=
  congrArg (vecAt · j) (matRow_swapRows hi)

theorem rowProd_swapRows (hi : i < k) (x : Vec) :
    rowProd k (swapRows k p c m) x i = rowProd k m x (Equiv.swap p c i) :=
  xorUpTo_congr fun j _ => by rw [matAt_swapRows hi]

theorem hasRows_scaleRow (hm : HasRows k m) (s : Byte) : HasRows k (scaleRow k c s m) := fun i hi => by
  rw [scaleRow, matRow_map_range hi, apply_ite List.length, List.length_map, ite_self, hm i hi]

theorem matAt_scaleRow (hi : i < k) (s : Byte) (j : Nat) :
    matAt (scaleRow k c s m) i j = if i = c then fmul s (matAt m i j) else matAt m i j := by
  have hmap (row : Vec) : vecAt (row.map (fmul s)) j = fmul s (vecAt row j) := by
    rw [vecAt, vecAt, ← List.getD_map (f := fmul s), fmul_zero]
  rw [matAt, scaleRow, matRow_map_range hi, apply_ite (vecAt · j), hmap]
  rfl

theorem rowProd_scaleRow (hi : i < k) (s : Byte) (x : Vec) :
    rowProd k (scaleRow k c s m) x i = if i = c then fmul s (rowProd k m x i) else rowProd k m x i := by
  by_cases hic : i = c
  · rw [if_pos hic, rowProd, rowProd, fmul_xorUpTo]
    exact xorUpTo_congr fun j _ => by rw [matAt_scaleRow hi, if_pos hic, fmul_assoc]
  · rw [if_neg hic]
    exact xorUpTo_congr fun j _ => by rw [matAt_scaleRow hi, if_neg hic]

theorem hasRows_clearRows (hm : HasRows k m) (hc : c < k) (f : Nat → Byte) : HasRows k (clearRows k c f m) :=
  fun i hi => by
    rw [clearRows, matRow_map_range hi]
    split
    · exact hm i hi
    · rw [List.length_zipWith, hm i hi, hm c hc, Nat.min_self]

theorem matAt_clearRows (hm : HasRows k m) (hc : c < k) (hi : i < k) (f : Nat → Byte) {j : Nat} (hj : j < k) :
    matAt (clearRows k c f m) i j
      = if i = c then matAt m i j else matAt m i j ^^^ fmul (f i) (matAt m c j) := by
  rw [matAt, clearRows, matRow_map_range hi]
  split
  · rfl
  · have hji : j < (matRow m i).length := (hm i hi).symm ▸ hj
    have hjc : j < (matRow m c).length := (hm c hc).symm ▸ hj
    simp [vecAt, matAt, fsub, hji, hjc]

theorem rowProd_clearRows (hm : HasRows k m) (hc : c < k) (hi : i < k) (f : Nat → Byte) (x : Vec) :
    rowProd k (clearRows k c f m) x i
      = if i = c then rowProd k m x i else rowProd k m x i ^^^ fmul (f i) (rowProd k m x c) := by
  by_cases hic : i = c
  · rw [if_pos hic]
    exact xorUpTo_congr fun j hj => by rw [matAt_clearRows hm hc hi f hj, if_pos hic]
  · rw [if_neg hic, rowProd, rowProd, rowProd, fmul_xorUpTo, ← xorUpTo_xor]
    exact xorUpTo_congr fun j hj => by
      rw [matAt_clearRows hm hc hi f hj, if_neg hic, fmul_xor_left, fmul_assoc]

end RowOperations

/-! ## The elimination of R141

Both halves of the augmented matrix undergo the same invertible row operations, so the solutions of `W·x = E·y` stay
those of `M·x = y`. At the end W is the identity, and they are `x = E·y`. When a column has no pivot, the columns before
it are unit columns and it is a combination of them, which gives a solution of `M·x = 0` that is not zero. -/

/-- The vectors satisfy `W·x = E·y`. -/
def Balanced (k : Nat) (w e : Mat) (x y : Vec) : Prop := ∀ i, i < k → rowProd k w x i = rowProd k e y i

section Balanced
variable {k p c : Nat} {w e : Mat} {x y : Vec}

theorem balanced_swapRows (hp : p < k) (hc : c < k) :
    Balanced k (swapRows k p c w) (swapRows k p c e) x y ↔ Balanced k w e x y := by
  refine ⟨fun h i hi => ?_, fun h i hi => ?_⟩
  · have hswap := h _ (swap_lt hp hc hi)
    rwa [rowProd_swapRows (swap_lt hp hc hi), rowProd_swapRows (swap_lt hp hc hi), Equiv.swap_apply_self] at hswap
  · rw [rowProd_swapRows hi, rowProd_swapRows hi, h _ (swap_lt hp hc hi)]

/-- The scale factor is an inverse, so the scaling can be undone. -/
theorem balanced_scaleRow {a : Byte} (ha : a ≠ 0x00#8) :
    Balanced k (scaleRow k c (finv a) w) (scaleRow k c (finv a) e) x y ↔ Balanced k w e x y := by
  have hcancel (u v : Byte) : fmul (finv a) u = fmul (finv a) v ↔ u = v := by
    refine ⟨fun h => ?_, congrArg _⟩
    have hmul := congrArg (fmul a) h
    rwa [← fmul_assoc, ← fmul_assoc, fmul_finv ha, one_fmul, one_fmul] at hmul
  refine forall₂_congr fun i hi => ?_
  rw [rowProd_scaleRow hi, rowProd_scaleRow hi]
  split
  · exact hcancel _ _
  · rfl

theorem balanced_clearRows (hw : HasRows k w) (he : HasRows k e) (hc : c < k) (f : Nat → Byte) :
    Balanced k (clearRows k c f w) (clearRows k c f e) x y ↔ Balanced k w e x y := by
  refine ⟨fun h => ?_, fun h i hi => ?_⟩
  · have hpivot : rowProd k w x c = rowProd k e y c := by
      simpa [rowProd_clearRows hw hc hc, rowProd_clearRows he hc hc] using h c hc
    intro i hi
    have hrow := h i hi
    rw [rowProd_clearRows hw hc hi, rowProd_clearRows he hc hi, hpivot] at hrow
    split at hrow
    · exact hrow
    · exact (BitVec.xor_left_inj _).1 hrow
  · rw [rowProd_clearRows hw hc hi, rowProd_clearRows he hc hi, h i hi, h c hc]

end Balanced

/-! ### The work on one column -/

/-- The three row operations for pivot column c: `p` is the row of the pivot `a`, and `f` gives each row's factor. -/
def reduceRows (k p c : Nat) (a : Byte) (f : Nat → Byte) (m : Mat) : Mat :=
  clearRows k c f (scaleRow k c (finv a) (swapRows k p c m))

theorem pivotRow_eq_some {k c p : Nat} {w : Mat} (h : pivotRow k c w = some p) :
    c ≤ p ∧ p < k ∧ matAt w p c ≠ 0x00#8 := by
  have hmem := List.mem_of_find?_eq_some h
  have hpred := List.find?_some h
  simp only [Bool.and_eq_true, decide_eq_true_eq, bne_iff_ne] at hpred
  obtain ⟨hcp, hne⟩ := hpred
  exact ⟨hcp, List.mem_range.1 hmem, hne⟩

theorem pivotRow_eq_none {k c i : Nat} {w : Mat} (h : pivotRow k c w = none) (hci : c ≤ i) (hi : i < k) :
    matAt w i c = 0x00#8 := by
  simpa [hci] using List.find?_eq_none.1 h i (List.mem_range.2 hi)

theorem gaussColumn_eq_none {k c : Nat} {w e : Mat} (h : gaussColumn k c w e = none) : pivotRow k c w = none := by
  unfold gaussColumn at h
  split at h
  · assumption
  · cases h

/-- A column with a pivot is worked on by the same row operations in both halves. -/
theorem gaussColumn_eq_some {k c : Nat} {w e w' e' : Mat} (hc : c < k) (h : gaussColumn k c w e = some (w', e')) :
    ∃ p f, pivotRow k c w = some p ∧ (∀ i, i < k → i ≠ c → f i = matAt w (Equiv.swap p c i) c)
      ∧ w' = reduceRows k p c (matAt w p c) f w ∧ e' = reduceRows k p c (matAt w p c) f e := by
  unfold gaussColumn at h
  split at h
  · cases h
  · next p hp =>
    have hpivot : matAt (swapRows k p c w) c c = matAt w p c := by rw [matAt_swapRows hc, Equiv.swap_apply_right]
    simp only [hpivot, Option.some.injEq, Prod.mk.injEq] at h
    obtain ⟨hw, he⟩ := h
    exact ⟨p, _, hp, fun i hi hic => by rw [matAt_scaleRow hi, if_neg hic, matAt_swapRows hi], hw.symm, he.symm⟩

section ReduceRows
variable {k p c : Nat} {a : Byte} {f : Nat → Byte}

theorem hasRows_scale_swap {m : Mat} (hm : HasRows k m) (hp : p < k) (hc : c < k) (a : Byte) :
    HasRows k (scaleRow k c a (swapRows k p c m)) := hasRows_scaleRow (hasRows_swapRows hm hp hc) a

theorem hasRows_reduceRows {m : Mat} (hm : HasRows k m) (hp : p < k) (hc : c < k) :
    HasRows k (reduceRows k p c a f m) := hasRows_clearRows (hasRows_scale_swap hm hp hc _) hc f

theorem balanced_reduceRows {w e : Mat} {x y : Vec} (hw : HasRows k w) (he : HasRows k e) (hp : p < k) (hc : c < k)
    (ha : a ≠ 0x00#8) :
    Balanced k (reduceRows k p c a f w) (reduceRows k p c a f e) x y ↔ Balanced k w e x y :=
  (balanced_clearRows (hasRows_scale_swap hw hp hc _) (hasRows_scale_swap he hp hc _) hc f).trans
    ((balanced_scaleRow ha).trans (balanced_swapRows hp hc))

theorem matAt_reduceRows {m : Mat} (hm : HasRows k m) (hp : p < k) (hc : c < k) {i j : Nat} (hi : i < k) (hj : j < k) :
    matAt (reduceRows k p c a f m) i j
      = if i = c then fmul (finv a) (matAt m p j)
        else matAt m (Equiv.swap p c i) j ^^^ fmul (f i) (fmul (finv a) (matAt m p j)) := by
  have hpivot : matAt (scaleRow k c (finv a) (swapRows k p c m)) c j = fmul (finv a) (matAt m p j) := by
    rw [matAt_scaleRow hc, if_pos rfl, matAt_swapRows hc, Equiv.swap_apply_right]
  rw [reduceRows, matAt_clearRows (hasRows_scale_swap hm hp hc _) hc hi f hj, hpivot]
  split
  · next h => rw [h, hpivot]
  · next h => rw [matAt_scaleRow hi, if_neg h, matAt_swapRows hi]

end ReduceRows

/-! ### The invariant of the elimination -/

/-- What holds of the two halves after the pivot columns before `c`, for the matrix `m`. -/
structure Eliminated (k c : Nat) (m w e : Mat) : Prop where
  rows_w : HasRows k w
  rows_e : HasRows k e
  balanced : ∀ x y, Balanced k w e x y ↔ Balanced k m (identityMat k) x y
  unit_columns : ∀ i j, i < k → j < c → matAt w i j = if i = j then 0x01#8 else 0x00#8

theorem eliminated_start {k : Nat} {m : Mat} (hm : HasRows k m) : Eliminated k 0 m m (identityMat k) where
  rows_w := hm
  rows_e := hasRows_matOf k _
  balanced _ _ := Iff.rfl
  unit_columns _ j _ hj := absurd hj (Nat.not_lt_zero j)

section Elimination
variable {k c : Nat} {m w e w' e' : Mat}

/-- The pivot row is zero in the columns before c, which keep their form, and column c becomes a unit column. -/
theorem Eliminated.column (h : Eliminated k c m w e) (hc : c < k) (hcol : gaussColumn k c w e = some (w', e')) :
    Eliminated k (c + 1) m w' e' := by
  obtain ⟨p, f, hpivot, hf, rfl, rfl⟩ := gaussColumn_eq_some hc hcol
  obtain ⟨hcp, hp, ha⟩ := pivotRow_eq_some hpivot
  refine ⟨hasRows_reduceRows h.rows_w hp hc, hasRows_reduceRows h.rows_e hp hc,
    fun x y => (balanced_reduceRows h.rows_w h.rows_e hp hc ha).trans (h.balanced x y), fun i j hi hj => ?_⟩
  rw [matAt_reduceRows h.rows_w hp hc hi (by omega)]
  rcases Nat.lt_succ_iff_lt_or_eq.1 hj with hjc | rfl
  · have hzero : matAt w p j = 0x00#8 := by rw [h.unit_columns p j hp hjc, if_neg (by omega)]
    rw [hzero, fmul_zero, fmul_zero, BitVec.xor_zero]
    split
    · rw [if_neg (by omega)]
    · rw [h.unit_columns _ j (swap_lt hp hc hi) hjc]
      have hsame : Equiv.swap p c i = j ↔ i = j := by
        rw [Equiv.swap_apply_eq_iff, Equiv.swap_apply_of_ne_of_ne (by omega) (by omega)]
      simp only [hsame]
  · rw [fmul_comm (finv _), fmul_finv ha]
    split
    · rfl
    · next hij => rw [hf i hi hij, fmul_one, BitVec.xor_self]

theorem Eliminated.loop_some {left : Nat} (h : Eliminated k c m w e) (hk : c + left = k)
    (hloop : gaussLoop k left c w e = some (w', e')) : Eliminated k k m w' e' := by
  induction left generalizing c w e with
  | zero =>
    obtain rfl : c = k := hk
    cases hloop
    exact h
  | succ left ih =>
    rw [gaussLoop] at hloop
    split at hloop
    · cases hloop
    · next w₁ e₁ hcol => exact ih (h.column (by omega) hcol) (by omega) hloop

theorem Eliminated.loop_none {left : Nat} (h : Eliminated k c m w e) (hk : c + left = k)
    (hloop : gaussLoop k left c w e = none) :
    ∃ c' w' e', Eliminated k c' m w' e' ∧ c' < k ∧ pivotRow k c' w' = none := by
  induction left generalizing c w e with
  | zero => cases hloop
  | succ left ih =>
    rw [gaussLoop] at hloop
    split at hloop
    · next hcol => exact ⟨c, w, e, h, by omega, gaussColumn_eq_none hcol⟩
    · next w₁ e₁ hcol => exact ih (h.column (by omega) hcol) (by omega) hloop

/-- Column c above row c, with 01 at c: what W sends to zero when column c is a sum of the unit columns before it. -/
def kernelVec (k c : Nat) (w : Mat) : Vec :=
  vecOf k fun j => (if j < c then matAt w j c else 0x00#8) ^^^ (if c = j then 0x01#8 else 0x00#8)

theorem kernelVec_ne_zeroVec (hc : c < k) : kernelVec k c w ≠ zeroVec k := by
  intro h
  have hone := congrArg (vecAt · c) h
  simp [kernelVec, zeroVec, vecAt_vecOf hc] at hone

/-- The unit columns before c add up to column c above row c. -/
theorem Eliminated.rowProd_above (h : Eliminated k c m w e) {i : Nat} (hi : i < k) :
    rowProd k w (vecOf k fun j => if j < c then matAt w j c else 0x00#8) i
      = if i < c then matAt w i c else 0x00#8 := by
  refine (xorUpTo_congr fun j hj => ?_).trans (xorUpTo_single hi _)
  rw [vecAt_vecOf hj]
  by_cases hjc : j < c
  · rw [h.unit_columns i j hi hjc, if_pos hjc]
    split
    · next hij => rw [hij, if_pos hjc, one_fmul]
    · exact zero_fmul _
  · rw [if_neg hjc, fmul_zero]
    split
    · next hij => rw [hij, if_neg hjc]
    · rfl

/-- Without a pivot, column c is zero from row c on. -/
theorem Eliminated.rowProd_kernelVec (h : Eliminated k c m w e) (hc : c < k) (hpivot : pivotRow k c w = none)
    {i : Nat} (hi : i < k) : rowProd k w (kernelVec k c w) i = 0x00#8 :=
  calc rowProd k w (kernelVec k c w) i
    _ = (if i < c then matAt w i c else 0x00#8) ^^^ matAt w i c :=
        (rowProd_vecOf_xor ..).trans (congrArg₂ (· ^^^ ·) (h.rowProd_above hi) (rowProd_unitVec hc w i))
    _ = 0x00#8 := by
        split
        · exact BitVec.xor_self
        · rw [pivotRow_eq_none hpivot (by omega) hi, BitVec.xor_self]

end Elimination

/-! ## The laws of `minv` (R142) -/

/-- `Balanced` with the identity on the right. -/
theorem balanced_identityMat {k : Nat} {m : Mat} {x y : Vec} (hy : y.length = k) :
    Balanced k m (identityMat k) x y ↔ matvec k k m x = y := by
  rw [matvec_eq_iff hy]
  exact forall₂_congr fun i hi => by rw [rowProd_of_unit_row hi fun j hj => matAt_identityMat hi hj]

/-- What `minv` returns solves every system of the matrix, uniquely. -/
theorem matvec_eq_iff_of_minv {k : Nat} {m e : Mat} (hm : HasRows k m) (he : minv k m = some e) {x y : Vec}
    (hx : x.length = k) (hy : y.length = k) : matvec k k m x = y ↔ matvec k k e y = x := by
  obtain ⟨⟨w, e'⟩, hloop, rfl⟩ := Option.map_eq_some_iff.1 he
  have hel := (eliminated_start hm).loop_some (Nat.zero_add k) hloop
  calc matvec k k m x = y
    _ ↔ Balanced k m (identityMat k) x y := (balanced_identityMat hy).symm
    _ ↔ Balanced k w e' x y := (hel.balanced x y).symm
    _ ↔ ∀ i, i < k → vecAt x i = rowProd k e' y i := forall₂_congr fun i hi => by
        rw [rowProd_of_unit_row hi fun j hj => hel.unit_columns i j hi hj]
    _ ↔ matvec k k e' y = x := by rw [matvec_eq_iff hx]; exact forall₂_congr fun _ _ => eq_comm

/-- A singular matrix sends some vector that is not zero to the zero vector. -/
theorem exists_kernel_of_minv_none {k : Nat} {m : Mat} (hm : HasRows k m) (h : minv k m = none) :
    ∃ x : Vec, x.length = k ∧ x ≠ zeroVec k ∧ matvec k k m x = zeroVec k := by
  obtain ⟨c, w, e, hel, hc, hpivot⟩ :=
    (eliminated_start hm).loop_none (Nat.zero_add k) (Option.map_eq_none_iff.1 h)
  have hbalanced : Balanced k w e (kernelVec k c w) (zeroVec k) := fun i hi => by
    rw [hel.rowProd_kernelVec hc hpivot hi, rowProd_zeroVec]
  exact ⟨_, vecOf_length .., kernelVec_ne_zeroVec hc,
    (balanced_identityMat (zeroVec_length k)).1 ((hel.balanced _ _).1 hbalanced)⟩

/-- Settles O32: `y = M·x` and `x = E·y` say the same, and a left inverse agrees with E on every `y`, which is
`M·(E·y)`. -/
theorem minvIsTheTwoSidedInverse : Obligations.MinvIsTheTwoSidedInverse := by
  intro k m e he
  have hinv {x y : Vec} := matvec_eq_iff_of_minv (x := x) (y := y) (hasRows_matOf k m) he
  have hright {x : Vec} (hx : x.length = k) : matvec k k (matOf k k m) (matvec k k e x) = x :=
    (hinv (matvec_length ..) hx).2 rfl
  refine ⟨fun x hx => ⟨(hinv hx (matvec_length ..)).1 rfl, hright hx⟩, fun e' he' i j hi hj => ?_⟩
  refine matAt_eq_of_matvec_eq (fun y hy => ?_) hi hj
  calc matvec k k e' y
    _ = matvec k k e' (matvec k k (matOf k k m) (matvec k k e y)) := by rw [hright hy]
    _ = matvec k k e y := he' _ (matvec_length ..)

/-- Settles O33: no matrix brings back a vector that is not zero from the zero vector. -/
theorem singularExactlyWhenNoInverse : Obligations.SingularExactlyWhenNoInverse := by
  intro k m
  constructor
  · rintro hnone ⟨e, he⟩
    obtain ⟨x, hx, hne, hker⟩ := exists_kernel_of_minv_none (hasRows_matOf k m) hnone
    exact hne (by rw [← he x hx, hker, matvec_zeroVec])
  · intro hno
    by_contra hsome
    obtain ⟨e, he⟩ := Option.ne_none_iff_exists'.1 hsome
    obtain ⟨hundo, -⟩ := minvIsTheTwoSidedInverse k m e he
    exact hno ⟨e, fun x hx => (hundo x hx).1⟩

/-! ## The commands (R144 to R147)

All three check their shape and then their ranges, and write one region. -/

theorem shapeOk_iff (s : State) : s.shapeOk = true ↔ 1 ≤ s.laRows.toNat ∧ 1 ≤ s.laCols.toNat := by
  rw [State.shapeOk, Bool.and_eq_true, decide_eq_true_iff, decide_eq_true_iff]
  rfl

theorem squareOk_iff (s : State) : s.squareOk = true ↔ 1 ≤ s.laRows.toNat ∧ s.laCols.toNat = s.laRows.toNat := by
  rw [State.squareOk, Bool.and_eq_true, decide_eq_true_iff, decide_eq_true_iff]
  rfl

/-- A command that raises an error, and does nothing else, faults. -/
theorem faults_of_exec {i : Instr} {e : ErrorKind} {s : State} (h : exec i s = .next (raiseError e s)) :
    Faults i e s := ⟨_, h, raiseError_latches e s, ⟨rfl, rfl, rfl⟩, rfl⟩

section ShapeThenRanges
variable {i : Instr} {s : State} {shape ranges : Bool} {body : Out}
  (hexec : exec i s = withChecks [(shape, .dimension), (ranges, .addressRange)] s body)
include hexec

theorem faults_of_shape (hshape : ¬ shape = true) : Faults i .dimension s :=
  faults_of_exec (hexec.trans (withChecks_of_some (by rw [firstError_cons, if_neg hshape]) _ _))

theorem faults_of_ranges (hshape : shape = true) (hranges : ¬ ranges = true) : Faults i .addressRange s :=
  faults_of_exec (hexec.trans (withChecks_of_some
    (by rw [firstError_cons, if_pos hshape, firstError_cons, if_neg hranges]) _ _))

theorem exec_of_shape_of_ranges (hshape : shape = true) (hranges : ranges = true) : exec i s = body :=
  hexec.trans (withChecks_of_none
    (by rw [firstError_cons, if_pos hshape, firstError_cons, if_pos hranges, firstError_nil]) _ _)

end ShapeThenRanges

/-- Completing after a write of OMEM changes that region and the completion flags. -/
theorem completeCommand_writeBytes (s : State) (base : Nat) {bs : List Byte} {len : Nat} (hlen : bs.length = len) :
    CompletesPlain s (completeCommand (s.writeBytes base bs)) ∧ SameG s (completeCommand (s.writeBytes base bs))
      ∧ SameP s (completeCommand (s.writeBytes base bs))
      ∧ SameOmemOutside base len s (completeCommand (s.writeBytes base bs))
      ∧ ∀ k, k < len → (completeCommand (s.writeBytes base bs)).omemByte (base + k) = bs.getD k 0#8 := by
  subst hlen
  exact ⟨⟨completes_of rfl rfl rfl ⟨rfl, rfl, rfl, rfl, rfl, rfl, rfl, rfl, rfl⟩,
      ⟨⟨rfl, rfl, rfl, rfl, rfl⟩, rfl, rfl⟩, ⟨rfl, rfl, rfl⟩, rfl⟩,
    fun _ => rfl, fun _ => rfl, writeBytes_sameOmemOutside s base bs,
    fun k hk => omemByte_writeBytes_inside s base bs hk⟩

theorem vecAt_readVec {s : State} {r : PReg} {len k : Nat} (hk : k < len) :
    vecAt (s.readVec r len) k = s.omemByte (baseOf s r + k) := readBytes_getD s _ len k hk

theorem matAt_matOn {s : State} {base k i j : Nat} (hi : i < k) (hj : j < k) :
    matAt (matOn s base k) i j = s.omemByte (base + i * k + j) := matAt_matOf hi hj _

/-- Settles O29: element i is the product of row i as the sources read before the write. -/
theorem matrixVectorCommand : Obligations.MatrixVectorCommand := by
  intro pd pm pv s r c ranges
  have hchecks : (s.regionOk pm (r * c) && s.regionOk pv c && s.regionOk pd r) = true ↔ ranges := by
    simp only [Bool.and_eq_true, regionOk_iff, and_assoc, ranges]
  refine ⟨encodesAs_of_encode_eq (joinWord_fieldsRegs_three ..), fun hzero => ?_, fun hr hc hout => ?_,
    fun hr hc hin => ?_⟩
  · exact faults_of_shape rfl fun hshape => by have := (shapeOk_iff s).1 hshape; omega
  · exact faults_of_ranges rfl ((shapeOk_iff s).2 ⟨hr, hc⟩) (hchecks.not.2 hout)
  · have hrun := exec_of_shape_of_ranges (i := .mvmul pd pm pv) rfl ((shapeOk_iff s).2 ⟨hr, hc⟩) (hchecks.2 hin)
    obtain ⟨hplain, hg, hp, hframe, hbytes⟩ := completeCommand_writeBytes s (baseOf s pd)
      (matvec_length r c (s.readMat pm r c) (s.readVec pv c))
    refine ⟨_, hrun, hplain, hg, hp, hframe, fun i hi => (hbytes i hi).trans ((vecAt_matvec hi _ _).trans ?_)⟩
    exact xorUpTo_congr fun j hj => congrArg₂ fmul (matAt_matOf hi hj _) (vecAt_readVec hj)

/-- Settles O30: after the two checks the outcome is that of `minv`, whose rows are written one after another. -/
theorem matrixInverseCommand : Obligations.MatrixInverseCommand := by
  intro pd pm s k square ranges
  have hchecks : (s.regionOk pm (k * k) && s.regionOk pd (k * k)) = true ↔ ranges := by
    simp only [Bool.and_eq_true, regionOk_iff, ranges]
  have hrun (hsq : square) (hin : ranges) : exec (.minv pd pm) s
      = match minv k (matOn s (baseOf s pm) k) with
        | none => .next (raiseError .singularMatrix s)
        | some e => .next (completeCommand (s.writeBytes (baseOf s pd) (bytesOfMat k k e))) :=
    exec_of_shape_of_ranges rfl ((squareOk_iff s).2 hsq) (hchecks.2 hin)
  refine ⟨encodesAs_of_encode_eq (joinWord_fieldsRegs_two ..), fun hsq => ?_, fun hsq hout => ?_,
    fun hsq hin hnone => ?_, fun e hsq hin hsome => ?_⟩
  · exact faults_of_shape rfl ((squareOk_iff s).not.2 hsq)
  · exact faults_of_ranges rfl ((squareOk_iff s).2 hsq) (hchecks.not.2 hout)
  · exact faults_of_exec (by rw [hrun hsq hin, hnone])
  · obtain ⟨hplain, hg, hp, hframe, hbytes⟩ :=
      completeCommand_writeBytes s (baseOf s pd) (bytesOfMat_length k k e)
    exact ⟨_, by rw [hrun hsq hin, hsome], hplain, hg, hp, hframe,
      fun i j hi hj => (hbytes _ (rowMajor_lt hi hj)).trans (bytesOfMat_getD hi hj e)⟩

/-- Settles O31: the vector written is `matvec(minv(M), b)`, and what `minv` returns solves every system of M. -/
theorem solveCommand : Obligations.SolveCommand := by
  intro pd pm pb s k square ranges
  have hchecks : (s.regionOk pm (k * k) && s.regionOk pb k && s.regionOk pd k) = true ↔ ranges := by
    simp only [Bool.and_eq_true, regionOk_iff, and_assoc, ranges]
  have hrun (hsq : square) (hin : ranges) : exec (.msolve pd pm pb) s
      = match minv k (matOn s (baseOf s pm) k) with
        | none => .next (raiseError .singularMatrix s)
        | some e => .next (completeCommand (s.writeBytes (baseOf s pd) (matvec k k e (s.readVec pb k)))) :=
    exec_of_shape_of_ranges rfl ((squareOk_iff s).2 hsq) (hchecks.2 hin)
  refine ⟨encodesAs_of_encode_eq (joinWord_fieldsRegs_three ..), fun hsq => ?_, fun hsq hout => ?_,
    fun hsq hin hnone => ?_, fun e hsq hin hsome => ?_⟩
  · exact faults_of_shape rfl ((squareOk_iff s).not.2 hsq)
  · exact faults_of_ranges rfl ((squareOk_iff s).2 hsq) (hchecks.not.2 hout)
  · exact faults_of_exec (by rw [hrun hsq hin, hnone])
  · obtain ⟨hplain, hg, hp, hframe, hbytes⟩ := completeCommand_writeBytes s (baseOf s pd)
      (matvec_length k k e (s.readVec pb k))
    have hsolves : matvec k k (matOn s (baseOf s pm) k) (matvec k k e (s.readVec pb k)) = s.readVec pb k :=
      (matvec_eq_iff_of_minv (hasRows_matOf k _) hsome (matvec_length ..) (readBytes_length ..)).2 rfl
    refine ⟨_, by rw [hrun hsq hin, hsome], hplain, hg, hp, hframe, fun i hi => ?_, fun i hi => ?_⟩
    · refine (hbytes i hi).trans ((vecAt_matvec hi _ _).trans ?_)
      exact xorUpTo_congr fun j hj => congrArg (fmul _) (vecAt_readVec hj)
    · refine Eq.trans ?_ (((matvec_eq_iff (readBytes_length ..)).1 hsolves i hi).trans (vecAt_readVec hi))
      exact xorUpTo_congr fun j hj => congrArg₂ fmul (matAt_matOn hi hj).symm (hbytes j hj)

end Sys2Proof.Machine

/-! PROOFS of the statements about the central map (42_central_map): its polynomials as functions of the oil values, and
the three commands. -/
namespace Sys2Proof.Machine

/-! ## Affine in the oil variables (R167)

The double sum over vinegar and oil is taken oil variable by oil variable, and the linear part is cut after the vinegar
variables. -/

theorem xorUpTo_add (a b : Nat) (e : Nat → Byte) :
    xorUpTo (a + b) e = xorUpTo a e ^^^ xorUpTo b (fun j => e (a + j)) := by
  induction b with
  | zero => exact BitVec.xor_zero.symm
  | succ b ih => rw [← Nat.add_assoc, xorUpTo, xorUpTo, ih, BitVec.xor_assoc]

/-- A double sum may be taken in either order. -/
theorem xorUpTo_swap (r c : Nat) (e : Nat → Nat → Byte) :
    xorUpTo r (fun i => xorUpTo c (e i)) = xorUpTo c (fun j => xorUpTo r (e · j)) := by
  induction r with
  | zero => exact (xorUpTo_zero c).symm
  | succ r ih =>
    simp only [xorUpTo]
    rw [xorUpTo_xor, ih]

theorem xorUpTo_fmul (k : Nat) (e : Nat → Byte) (a : Byte) :
    fmul (xorUpTo k e) a = xorUpTo k (fun i => fmul (e i) a) := by
  simp only [fmul_comm _ a, fmul_xorUpTo]

theorem vecAt_append_left {x y : Vec} {i : Nat} (hi : i < x.length) : vecAt (x ++ y) i = vecAt x i :=
  List.getD_append x y 0#8 i hi

theorem vecAt_append_right (x y : Vec) (j : Nat) : vecAt (x ++ y) (x.length + j) = vecAt y j := by
  rw [vecAt, List.getD_append_right x y 0#8 _ (Nat.le_add_right ..), Nat.add_sub_cancel_left, vecAt]

/-- The terms of one oil variable, each with its coefficient. -/
theorem xorUpTo_coef (v o : Nat) (q : Poly) (xv xo : Vec) :
    xorUpTo o (fun j => fmul (coef v q xv j) (vecAt xo j))
      = xorUpTo v (fun i => xorUpTo o (fun j => fmul (fmul (matAt q.vo i j) (vecAt xv i)) (vecAt xo j)))
        ^^^ xorUpTo o (fun j => fmul (vecAt q.lin (v + j)) (vecAt xo j)) := by
  simp only [coef, fmul_xor_left, xorUpTo_fmul, xorUpTo_xor]
  rw [xorUpTo_swap]

theorem evaluate_append (o : Nat) (q : Poly) (xv xo : Vec) :
    evaluate (xv.length + o) xv.length q (xv ++ xo)
      = vinpart xv.length q xv ^^^ xorUpTo o (fun j => fmul (coef xv.length q xv j) (vecAt xo j)) := by
  have hvv : xorUpTo xv.length (fun i => xorUpTo xv.length fun j =>
        fmul (fmul (matAt q.vv i j) (vecAt (xv ++ xo) i)) (vecAt (xv ++ xo) j))
      = xorUpTo xv.length (fun i => xorUpTo xv.length fun j => fmul (fmul (matAt q.vv i j) (vecAt xv i)) (vecAt xv j)) :=
    xorUpTo_congr fun i hi => xorUpTo_congr fun j hj => by rw [vecAt_append_left hi, vecAt_append_left hj]
  have hvo : xorUpTo xv.length (fun i => xorUpTo o fun j =>
        fmul (fmul (matAt q.vo i j) (vecAt (xv ++ xo) i)) (vecAt (xv ++ xo) (xv.length + j)))
      = xorUpTo xv.length (fun i => xorUpTo o fun j => fmul (fmul (matAt q.vo i j) (vecAt xv i)) (vecAt xo j)) :=
    xorUpTo_congr fun i hi => xorUpTo_congr fun j _ => by rw [vecAt_append_left hi, vecAt_append_right]
  have hlin : xorUpTo (xv.length + o) (fun k => fmul (vecAt q.lin k) (vecAt (xv ++ xo) k))
      = xorUpTo xv.length (fun k => fmul (vecAt q.lin k) (vecAt xv k))
        ^^^ xorUpTo o (fun j => fmul (vecAt q.lin (xv.length + j)) (vecAt xo j)) := by
    rw [xorUpTo_add]
    exact congrArg₂ (· ^^^ ·) (xorUpTo_congr fun k hk => by rw [vecAt_append_left hk])
      (xorUpTo_congr fun j _ => by rw [vecAt_append_right])
  rw [evaluate, Nat.add_sub_cancel_left, hvv, hvo, hlin, xorUpTo_coef, vinpart]
  ac_rfl

/-- Settles O37: the terms of `evaluate` without an oil value are `vinpart`, the others are those of `coef`. -/
theorem affineInTheOilVariables : Obligations.AffineInTheOilVariables := by
  intro n v q xv xo hvn hxv _
  subst hxv
  obtain ⟨o, rfl⟩ := Nat.exists_eq_add_of_le hvn
  refine ⟨?_, rfl, fun _ => rfl⟩
  rw [Nat.add_sub_cancel_left]
  exact evaluate_append o q xv xo

/-! ## Polynomials read from their records (R161, R65) -/

theorem matAt_matOfBytes {r c i j : Nat} (hi : i < r) (hj : j < c) (bytes : List Byte) :
    matAt (matOfBytes r c bytes) i j = bytes.getD (i * c + j) 0#8 := matAt_matOf hi hj _

/-- The value of a polynomial depends on its record's bytes and on n elements of the vector. -/
theorem evaluate_record {s : State} (hdim : DimOK s) {base : Nat} {bytes : List Byte} {x : Vec} {e : Nat → Byte}
    (hrecord : ∀ d, d < pszOf s → bytes.getD d 0#8 = s.omemByte (base + d)) (hx : ∀ k, k < s.nDim → vecAt x k = e k) :
    evaluate s.nDim s.vDim (polyOfBytes s.nDim s.vDim bytes) x = evalOn s base e := by
  obtain ⟨-, -, -, hvn, -⟩ := hdim
  change s.vDim ≤ s.nDim at hvn
  have hpsz : pszOf s = s.vDim * s.vDim + s.vDim * (s.nDim - s.vDim) + s.nDim + 1 := rfl
  have hbyte {d a : Nat} (ha : base + d = a) (hd : d < pszOf s) : bytes.getD d 0#8 = s.omemByte a :=
    ha ▸ hrecord d hd
  refine congrArg₂ (· ^^^ ·) (congrArg₂ (· ^^^ ·) (congrArg₂ (· ^^^ ·) ?const ?vv) ?vo) ?lin
  case const => exact hbyte (by simp only [Nat.add_assoc]; rfl) (by omega)
  case vv =>
    refine xorUpTo_congr fun i hi => xorUpTo_congr fun j hj => ?_
    have hindex := rowMajor_lt hi hj
    refine congrArg₂ fmul (congrArg₂ fmul ?_ (hx i (by omega))) (hx j (by omega))
    exact (matAt_matOfBytes hi hj _).trans (hbyte (Nat.add_assoc ..).symm (by omega))
  case vo =>
    refine xorUpTo_congr fun i hi => xorUpTo_congr fun j hj => ?_
    have hindex := rowMajor_lt hi hj
    refine congrArg₂ fmul (congrArg₂ fmul ?_ (hx i (by omega))) (hx (s.vDim + j) (by omega))
    exact (matAt_matOfBytes hi hj _).trans ((getD_drop ..).trans (hbyte (by simp only [Nat.add_assoc]; rfl) (by omega)))
  case lin =>
    refine xorUpTo_congr fun k hk => congrArg₂ fmul ?_ (hx k hk)
    exact (vecAt_vecOf hk _).trans (hbyte (by simp only [Nat.add_assoc]; rfl) (by omega))

/-- A vector in OMEM, as the statements write it. -/
theorem evaluate_readVec {s : State} (hdim : DimOK s) (px : PReg) {base : Nat} {bytes : List Byte}
    (hrecord : ∀ d, d < pszOf s → bytes.getD d 0#8 = s.omemByte (base + d)) :
    evaluate s.nDim s.vDim (polyOfBytes s.nDim s.vDim bytes) (s.readVec px s.nDim)
      = evalOn s base (fun k => s.omemByte (baseOf s px + k)) :=
  evaluate_record hdim hrecord fun _ hk => vecAt_readVec hk

/-! ## The commands (R164 to R166) -/

/-- The word of a command with one register operand. -/
theorem joinWord_fieldsRegs_one (op : BitVec 8) (f5 : BitVec 4) :
    joinWord (fieldsRegs op f5 0 0 0 0) = op ++ (f5 ++ 0#20) :=
  have low : 0#4 ++ (0#4 ++ (0#4 ++ (0#4 ++ 0#4))) = 0#20 := rfl
  congrArg (fun low => op ++ (f5 ++ low)) low

/-- Completing after a write of the first `len` RNG bytes consumes them, and changes that region and the completion
flags. -/
theorem completeCommand_writeDrawn {s t : State} (base : Nat) {len : Nat} (hbytes : len ≤ s.rng.length)
    (ht : t = completeCommand ({ s with rng := s.rng.drop len }.writeBytes base (s.rng.take len))) :
    Completes s t ∧ SameG s t ∧ SameP s t ∧ SameShape s t ∧ SameResults s t ∧ t.rng = s.rng.drop len
      ∧ SameOmemOutside base len s t ∧ ∀ k, k < len → t.omemByte (base + k) = s.rng.getD k 0#8 := by
  subst ht
  obtain ⟨⟨hcompletes, hshape, hresults, hrng⟩, hg, hp, hframe, hregion⟩ :=
    completeCommand_writeBytes { s with rng := s.rng.drop len } base (List.length_take_of_le hbytes)
  refine ⟨hcompletes, hg, hp, hshape, hresults, hrng, hframe, fun k hk => (hregion k hk).trans ?_⟩
  simpa using getD_take_drop s.rng 0 hk

theorem draw_of_short {s : State} {k : Nat} (h : s.rng.length < k) : s.draw k = none := if_neg (Nat.not_le.2 h)

theorem draw_of_enough {s : State} {k : Nat} (h : k ≤ s.rng.length) :
    s.draw k = some (s.rng.take k, { s with rng := s.rng.drop k }) := if_pos h

section Fgen
variable {s : State} {pf : PReg} (hdim : DimOK s) (hfits : Fits s pf s.mapSize)
include hdim hfits

theorem exec_fgen_waits (hshort : s.rng.length < s.mapSize) : exec (.fgen pf) s = .next s := by
  rw [exec_of_shape_of_ranges (i := .fgen pf) rfl ((dimOk_iff s).2 hdim) ((regionOk_iff ..).2 hfits),
    draw_of_short hshort]

theorem exec_fgen_draws (hbytes : s.mapSize ≤ s.rng.length) :
    exec (.fgen pf) s = .next (completeCommand
      ({ s with rng := s.rng.drop s.mapSize }.writeBytes (baseOf s pf) (s.rng.take s.mapSize))) := by
  rw [exec_of_shape_of_ranges (i := .fgen pf) rfl ((dimOk_iff s).2 hdim) ((regionOk_iff ..).2 hfits),
    draw_of_enough hbytes]
  rfl

end Fgen

/-- Settles O34: after the two checks the outcome is that of the draw. -/
theorem generateCommand : Obligations.GenerateCommand := by
  intro pf s len
  refine ⟨encodesAs_of_encode_eq (joinWord_fieldsRegs_one ..), fun hdim => ?_, fun hdim hout => ?_,
    fun hdim hfits hshort => ?_, fun hdim hfits hbytes => ?_⟩
  · exact faults_of_shape rfl ((dimOk_iff s).not.2 hdim)
  · exact faults_of_ranges rfl ((dimOk_iff s).2 hdim) ((regionOk_iff s pf len).not.2 hout)
  · exact ⟨s, exec_fgen_waits hdim hfits hshort, staysInFlight_of_progress s s.phase s.attempt s.progress,
      ⟨rfl, rfl, rfl⟩, rfl⟩
  · exact ⟨_, exec_fgen_draws hdim hfits hbytes, completeCommand_writeDrawn (baseOf s pf) hbytes rfl⟩

/-- Settles O35: the value written is `evaluate` of the record that `readPoly` reads. -/
theorem evaluateCommand : Obligations.EvaluateCommand := by
  intro gd pp px s ranges
  have hchecks : (s.regionOk pp s.psz && s.regionOk px s.nDim) = true ↔ ranges := by
    rw [Bool.and_eq_true, regionOk_iff, regionOk_iff]
    rfl
  refine ⟨encodesAs_of_encode_eq (joinWord_fieldsRegs_three ..), fun hdim => ?_, fun hdim hout => ?_,
    fun hdim hin => ?_⟩
  · exact faults_of_shape rfl ((dimOk_iff s).not.2 hdim)
  · exact faults_of_ranges rfl ((dimOk_iff s).2 hdim) (hchecks.not.2 hout)
  · have hrun := exec_of_shape_of_ranges (i := .peval gd pp px) rfl ((dimOk_iff s).2 hdim) (hchecks.2 hin)
    have hvalue : evaluate s.nDim s.vDim (s.readPoly pp) (s.readVec px s.nDim)
        = evalOn s (baseOf s pp) (fun k => s.omemByte (baseOf s px + k)) :=
      evaluate_readVec hdim px fun d hd => readBytes_getD s _ _ d hd
    rw [hvalue] at hrun
    exact ⟨_, hrun, completeCommand_writeG s gd _⟩

/-- Byte i of what PEVALA writes. -/
theorem vecAt_evaluateAll_readMap {s : State} (hdim : DimOK s) (pf px : PReg) {i : Nat} (hi : i < s.mDim) :
    vecAt (evaluateAll s.nDim s.vDim (s.readMap pf) (s.readVec px s.nDim)) i
      = evalOn s (baseOf s pf + i * pszOf s) (fun k => s.omemByte (baseOf s px + k)) := by
  rw [evaluateAll, State.readMap, mapOfBytes, List.map_map]
  exact (vecAt_vecOf hi _).trans (evaluate_readVec hdim px fun d hd => readMap_record_byte s pf hi hd)

/-- Settles O36: element i is the value of record i as the sources read before the write. -/
theorem evaluateAllCommand : Obligations.EvaluateAllCommand := by
  intro pd pf px s m ranges
  have hchecks : (s.regionOk pf s.mapSize && s.regionOk px s.nDim && s.regionOk pd s.mDim) = true ↔ ranges := by
    simp only [Bool.and_eq_true, regionOk_iff, and_assoc]
    rfl
  refine ⟨encodesAs_of_encode_eq (joinWord_fieldsRegs_three ..), fun hdim => ?_, fun hdim hout => ?_,
    fun hdim hin => ?_⟩
  · exact faults_of_shape rfl ((dimOk_iff s).not.2 hdim)
  · exact faults_of_ranges rfl ((dimOk_iff s).2 hdim) (hchecks.not.2 hout)
  · have hrun := exec_of_shape_of_ranges (i := .pevala pd pf px) rfl ((dimOk_iff s).2 hdim) (hchecks.2 hin)
    obtain ⟨hplain, hg, hp, hframe, hbytes⟩ := completeCommand_writeBytes s (baseOf s pd)
      ((evaluateAll_length s.nDim s.vDim (s.readMap pf) (s.readVec px s.nDim)).trans (readMap_length s pf))
    exact ⟨_, hrun, hplain, hg, hp, hframe, fun i hi => (hbytes i hi).trans (vecAt_evaluateAll_readMap hdim pf px hi)⟩

end Sys2Proof.Machine

/-! PROOFS of the statements about the key generator (43_key_generator): its entry checks, the ends of its run, and the
pair of matrices it leaves in OMEM. -/
namespace Sys2Proof.Machine

/-! ## The entry checks (R182) -/

section Checks
variable {s : State} {pf pt pi : PReg}

theorem keygenRegionsOk_iff : (s.regionOk pf s.mapSize && s.regionOk pt (s.nDim * s.nDim)
    && s.regionOk pi (s.nDim * s.nDim)) = true ↔ KeygenFits s pf pt pi := by
  simp only [Bool.and_eq_true, regionOk_iff, and_assoc]
  rfl

/-- A KEYGEN that fails an entry check latches its error with `ATTEMPT` 0 and draws nothing. -/
theorem keygen_faults_at_entry {e : ErrorKind} (h : firstError (keygenChecks pf pt pi s) = some e) :
    ∃ t, exec (.keygen pf pt pi) s = .next t ∧ Latches e s t ∧ t.valid = s.valid ∧ t.phase = s.phase
      ∧ t.attempt = 0#32 ∧ t.rng = s.rng :=
  ⟨_, withChecks_of_some h _ _, raiseError_latches e { s with attempt := 0#32 }, rfl, rfl, rfl, rfl⟩

end Checks

/-- Settles O41: the dimensions are checked first, then the three regions together. -/
theorem keygenEntryChecks : Obligations.KeygenEntryChecks := by
  intro pf pt pi s
  refine ⟨encodesAs_of_encode_eq (joinWord_fieldsRegs_three ..), fun hdim => ?_, fun hdim hout => ?_⟩
  · exact keygen_faults_at_entry (by rw [keygenChecks, firstError_cons, if_neg ((dimOk_iff s).not.2 hdim)])
  · exact keygen_faults_at_entry (by
      rw [keygenChecks, firstError_cons, if_pos ((dimOk_iff s).2 hdim), firstError_cons,
        if_neg (keygenRegionsOk_iff.not.2 hout)])

/-! ## The ends of a run (R182)

A run that stands at the budget test after some singular candidates either meets the budget there, or draws the next
candidate and, when that one has an inverse, leaves the loop. -/

section KeyNext
variable {budget : Option Nat} {n mapSize : Nat} {r : KeyRun}

theorem keyNext_invert_invertible (h : r.stage = .invert) {e : Mat} (hinv : minv n r.t = some e) :
    keyNext budget n mapSize r = some { r with stage := .found, tinv := e, steps := r.steps + 1 } := by
  simp [keyNext, h, hinv]

theorem keyNext_ended (h : r.stage = .found ∨ r.stage = .exhausted) : keyNext budget n mapSize r = none := by
  rcases h with h | h <;> rw [keyNext, h]

end KeyNext

section Ends
variable {s : State}

/-- The run with candidate number j drawn. -/
def KeyRun.afterDraw (s : State) (j : Nat) (r : KeyRun) : KeyRun :=
  { r.atDraw with
    stage := .invert, t := candidateT s j, rng := s.rng.drop (s.mapSize + (j + 1) * (s.nDim * s.nDim)),
    steps := r.atDraw.steps + 1 }

/-- With draws left and the bytes offered, the test and the draw are two steps. -/
theorem keyRun_draw_pass {j : Nat} {r : KeyRun} (h : KeyAtTest s j r) (hbudget : s.params.keygenBudget ≠ some j)
    (hbytes : s.mapSize + (j + 1) * (s.nDim * s.nDim) ≤ s.rng.length) :
    keyRun s.params.keygenBudget s.nDim s.mapSize 2 r = r.afterDraw s j := by
  rw [show 2 = 1 + 1 from rfl, keyRun_add, keyRun_test_pass h hbudget]
  obtain ⟨-, -, hrng⟩ := h
  change r.atDraw.rng = _ at hrng
  rw [Nat.succ_mul] at hbytes
  have henough : s.nDim * s.nDim ≤ r.atDraw.rng.length := by rw [hrng, List.length_drop]; omega
  rw [keyRun_of_some ((keyNext_drawT rfl).trans (if_pos henough)), hrng, matOfBytes_candidate, List.drop_drop,
    Nat.add_assoc, ← Nat.succ_mul]
  rfl

/-- How a run leaves the loop at candidate number j, with e for its inverse. -/
def FoundAt (s : State) (j : Nat) (e : Mat) (r : KeyRun) : Prop :=
  r.stage = .found ∧ r.draws = j + 1 ∧ r.t = candidateT s j ∧ r.tinv = e
    ∧ r.rng = s.rng.drop (s.mapSize + (j + 1) * (s.nDim * s.nDim))

/-- The first invertible candidate ends the run. -/
theorem keyRunFor_found {j fuel : Nat} {e : Mat} (hbudget : ∀ k, k ≤ j → s.params.keygenBudget ≠ some k)
    (hbytes : s.mapSize + (j + 1) * (s.nDim * s.nDim) ≤ s.rng.length)
    (hsing : ∀ k, k < j → minv s.nDim (candidateT s k) = none) (hinv : minv s.nDim (candidateT s j) = some e)
    (hfuel : 3 * j + 4 ≤ fuel) : FoundAt s j e (s.keyRunFor fuel) := by
  have hfewer : s.mapSize + j * (s.nDim * s.nDim) ≤ s.rng.length := by rw [Nat.succ_mul] at hbytes; omega
  have htest := keyRunFor_test j (fun k hk => hbudget k (by omega)) hfewer hsing
  obtain ⟨more, rfl⟩ := Nat.exists_eq_add_of_le hfuel
  rw [show 3 * j + 4 + more = 3 * j + 1 + (2 + (more + 1)) by omega, State.keyRunFor, keyRun_add, keyRun_add,
    ← State.keyRunFor, keyRun_draw_pass htest (hbudget j le_rfl) hbytes,
    keyRun_of_some (keyNext_invert_invertible rfl hinv), keyRun_of_none (keyNext_ended (.inl rfl))]
  obtain ⟨-, hdraws, -⟩ := htest
  exact ⟨rfl, congrArg (· + 1) hdraws, rfl, rfl, rfl⟩

/-- A budget of singular candidates ends the run. -/
theorem keyRunFor_exhausted {b fuel : Nat} (hbudget : s.params.keygenBudget = some b)
    (hbytes : s.mapSize + b * (s.nDim * s.nDim) ≤ s.rng.length)
    (hsing : ∀ k, k < b → minv s.nDim (candidateT s k) = none) (hfuel : 3 * b + 2 ≤ fuel) :
    (s.keyRunFor fuel).stage = .exhausted ∧ (s.keyRunFor fuel).draws = b
      ∧ (s.keyRunFor fuel).rng = s.rng.drop (s.mapSize + b * (s.nDim * s.nDim)) := by
  have hleft (k : Nat) (hk : k < b) : s.params.keygenBudget ≠ some k := by
    rw [hbudget]; exact fun h => hk.ne' (Option.some.inj h)
  obtain ⟨hstage, hdraws, hrng⟩ := keyRunFor_test b hleft hbytes hsing
  obtain ⟨more, rfl⟩ := Nat.exists_eq_add_of_le hfuel
  have hmet : s.params.keygenBudget = some (s.keyRunFor (3 * b + 1)).draws := hdraws.symm ▸ hbudget
  rw [show 3 * b + 2 + more = 3 * b + 1 + (more + 1) by omega, State.keyRunFor, keyRun_add, ← State.keyRunFor,
    keyRun_of_some ((keyNext_test hstage).trans (if_pos hmet)), keyRun_of_none (keyNext_ended (.inr rfl))]
  exact ⟨rfl, hdraws, hrng⟩

/-- The fuel covers every pass the bytes offered allow. -/
theorem passes_le_keyFuel (hdim : DimOK s) {j : Nat} (hbytes : s.mapSize + j * (s.nDim * s.nDim) ≤ s.rng.length) :
    3 * j + 5 ≤ s.keyFuel := by
  have hn : 1 ≤ s.nDim := hdim.1
  have hj : j ≤ j * (s.nDim * s.nDim) := Nat.le_mul_of_pos_right j (Nat.mul_pos hn hn)
  unfold State.keyFuel
  omega

end Ends

/-! ## What the command does with its run -/

section Command
variable {s : State} {pf pt pi : PReg}

/-- The end of a KEYGEN whose run has found its key: F, T and T inverse are written in this order (R182). -/
def State.writeKey (s : State) (pf pt pi : PReg) (r : KeyRun) : State :=
  completeCommand
    (((({ s with attempt := attemptOfDraws r.draws, rng := r.rng }).writeBytes (baseOf s pf) r.fbuf).writeMat
      (baseOf s pt) s.nDim s.nDim r.t).writeMat (baseOf s pi) s.nDim s.nDim r.tinv)

theorem exec_keygen_found (hchecks : firstError (keygenChecks pf pt pi s) = none)
    (hstage : (s.keyRunFor s.keyFuel).stage = .found) :
    exec (.keygen pf pt pi) s = .next (s.writeKey pf pt pi (s.keyRunFor s.keyFuel)) := by
  change execKeygen pf pt pi s = _
  rw [execKeygen, withChecks_of_none hchecks]
  simp only [hstage]
  rfl

theorem exec_keygen_exhausted (hchecks : firstError (keygenChecks pf pt pi s) = none)
    (hstage : (s.keyRunFor s.keyFuel).stage = .exhausted) :
    exec (.keygen pf pt pi) s = .next (raiseError .keygenExhausted { s with
      attempt := attemptOfDraws (s.keyRunFor s.keyFuel).draws, rng := (s.keyRunFor s.keyFuel).rng }) := by
  change execKeygen pf pt pi s = _
  rw [execKeygen, withChecks_of_none hchecks]
  simp only [hstage]

/-- A KEYGEN in flight that ends without an error has found its key: each other way leaves an error or BUSY. -/
theorem eq_writeKey_of_completed {t : State} (hbusy : s.busy = true) (hexec : exec (.keygen pf pt pi) s = .next t)
    (hidle : t.busy = false) (hnoerr : t.err = false) :
    (s.keyRunFor s.keyFuel).stage = .found ∧ t = s.writeKey pf pt pi (s.keyRunFor s.keyFuel) := by
  cases hchecks : firstError (keygenChecks pf pt pi s) with
  | some e =>
    cases (withChecks_of_some hchecks _ _).symm.trans hexec
    cases hnoerr
  | none =>
    cases hstage : (s.keyRunFor s.keyFuel).stage with
    | found =>
      cases (exec_keygen_found hchecks hstage).symm.trans hexec
      exact ⟨rfl, rfl⟩
    | exhausted =>
      cases (exec_keygen_exhausted hchecks hstage).symm.trans hexec
      cases hnoerr
    | drawF | test | drawT | invert =>
      change execKeygen pf pt pi s = _ at hexec
      rw [execKeygen, withChecks_of_none hchecks] at hexec
      simp only [hstage] at hexec
      cases hexec
      cases hbusy.symm.trans hidle

end Command

/-- Settles O40: the budget test that ends the run is the one after the last draw it allows. -/
theorem keygenBudgetExhaustion : Obligations.KeygenBudgetExhaustion := by
  intro pf pt pi s b n len hdim hfits hbudget hbytes hsing
  have hfuel := passes_le_keyFuel hdim hbytes
  obtain ⟨hstage, hdraws, hrng⟩ := keyRunFor_exhausted (fuel := s.keyFuel) hbudget hbytes hsing (by omega)
  refine ⟨_, exec_keygen_exhausted (keygenChecks_pass hdim hfits) hstage, raiseError_latches _ { s with
    attempt := _, rng := _ }, rfl, rfl, congrArg attemptOfDraws hdraws, hrng⟩

/-! ## What a found key is

A property of runs that every step of R182 keeps. -/

/-- The buffered bytes are those of F, the matrix to invert is n by n, and the one found has its inverse beside it. -/
structure KeySound (s : State) (r : KeyRun) : Prop where
  undrawn : r.stage = .drawF → r.rng = s.rng
  fbuf : r.stage ≠ .drawF → r.fbuf = s.rng.take s.mapSize
  rows : r.stage = .invert → HasRows s.nDim r.t
  inverse : r.stage = .found → HasRows s.nDim r.t ∧ minv s.nDim r.t = some r.tinv

section KeySound
variable {s : State} {budget : Option Nat}

theorem keySound_start (s : State) : KeySound s s.keyStart := ⟨fun _ => rfl, fun h => absurd rfl h, nofun, nofun⟩

theorem KeySound.next {r r' : KeyRun} (h : KeySound s r) (hnext : keyNext budget s.nDim s.mapSize r = some r') :
    KeySound s r' := by
  cases hstage : r.stage with
  | drawF =>
    obtain ⟨-, ⟨⟩⟩ := Option.ite_none_right_eq_some.1 ((keyNext_drawF hstage).symm.trans hnext)
    exact ⟨nofun, fun _ => congrArg (List.take s.mapSize) (h.undrawn hstage), nofun, nofun⟩
  | test =>
    rw [keyNext_test hstage] at hnext
    split at hnext <;> (cases hnext; exact ⟨nofun, fun _ => h.fbuf (hstage ▸ nofun), nofun, nofun⟩)
  | drawT =>
    obtain ⟨-, ⟨⟩⟩ := Option.ite_none_right_eq_some.1 ((keyNext_drawT hstage).symm.trans hnext)
    exact ⟨nofun, fun _ => h.fbuf (hstage ▸ nofun), fun _ => hasRows_matOf s.nDim _, nofun⟩
  | invert =>
    cases hinv : minv s.nDim r.t with
    | none =>
      cases (keyNext_invert_singular hstage hinv).symm.trans hnext
      exact ⟨nofun, fun _ => h.fbuf (hstage ▸ nofun), nofun, nofun⟩
    | some e =>
      cases (keyNext_invert_invertible hstage hinv).symm.trans hnext
      exact ⟨nofun, fun _ => h.fbuf (hstage ▸ nofun), nofun, fun _ => ⟨h.rows hstage, hinv⟩⟩
  | found => cases (keyNext_ended (.inl hstage)).symm.trans hnext
  | exhausted => cases (keyNext_ended (.inr hstage)).symm.trans hnext

theorem KeySound.run {r : KeyRun} (h : KeySound s r) (fuel : Nat) :
    KeySound s (keyRun budget s.nDim s.mapSize fuel r) := by
  induction fuel generalizing r with
  | zero => exact h
  | succ fuel ih =>
    cases hnext : keyNext budget s.nDim s.mapSize r with
    | none => rwa [keyRun_of_none hnext]
    | some r' =>
      rw [keyRun_of_some hnext]
      exact ih (h.next hnext)

theorem keySound_keyRunFor (s : State) (fuel : Nat) : KeySound s (s.keyRunFor fuel) := (keySound_start s).run fuel

end KeySound

/-! ## The matrices in OMEM (20_memory R64) -/

theorem omemByte_writeMat (s : State) (base r c : Nat) (m : Mat) (x : Nat) :
    (s.writeMat base r c m).omemByte x
      = if base ≤ x ∧ x < base + r * c then matAt m ((x - base) / c) ((x - base) % c) else s.omemByte x := by
  rw [writeMat_eq, omemByte_writeBytes, bytesOfMat_length]
  split
  next hin => exact vecAt_vecOf (by omega) _
  next => rfl

/-- A matrix read back from where it was written. -/
theorem matAt_matOn_writeMat (s : State) (base : Nat) {k i j : Nat} (hi : i < k) (hj : j < k) (m : Mat) :
    matAt (matOn (s.writeMat base k k m) base k) i j = matAt m i j := by
  have hin : i * k + j < (bytesOfMat k k m).length := (bytesOfMat_length k k m).symm ▸ rowMajor_lt hi hj
  rw [matAt_matOn hi hj, Nat.add_assoc, writeMat_eq, omemByte_writeBytes_inside s base _ hin, bytesOfMat_getD hi hj]

/-- A write elsewhere leaves a matrix in OMEM as it was. -/
theorem matOn_writeMat_of_apart (s : State) {base other k : Nat} (hapart : Apart base (k * k) other (k * k)) (m : Mat) :
    matOn (s.writeMat other k k m) base k = matOn s base k :=
  matOf_congr fun i j hi hj => by
    have hin := rowMajor_lt hi hj
    rw [omemByte_writeMat, if_neg (by unfold Apart at hapart; omega)]

theorem matOn_completeCommand (s : State) (base k : Nat) : matOn (completeCommand s) base k = matOn s base k := rfl

theorem matvec_congr {r c : Nat} {m m' : Mat} (h : ∀ i j, i < r → j < c → matAt m i j = matAt m' i j) (x : Vec) :
    matvec r c m x = matvec r c m' x :=
  vecOf_congr fun i hi => xorUpTo_congr fun j hj => by rw [h i j hi hj]

/-- Byte k of candidate number a, row-major. -/
theorem matAt_candidateT_byte (s : State) (a : Nat) {k : Nat} (hk : k < s.nDim * s.nDim) :
    matAt (candidateT s a) (k / s.nDim) (k % s.nDim) = s.rng.getD (s.mapSize + a * (s.nDim * s.nDim) + k) 0#8 := by
  have hn : 0 < s.nDim := Nat.pos_of_mul_pos_left (Nat.zero_lt_of_lt hk)
  refine (matAt_matOf (Nat.div_lt_of_lt_mul hk) (Nat.mod_lt k hn) _).trans ?_
  exact congrArg (fun d => s.rng.getD (s.mapSize + a * (s.nDim * s.nDim) + d) 0#8) (Nat.div_add_mod' k s.nDim)

section WriteKey
variable (s : State) (pf pt pi : PReg) (r : KeyRun)

/-- The three writes are one change of OMEM. -/
theorem writeKey_eq_of_omem : ∃ m, s.writeKey pf pt pi r
    = completeCommand { s with attempt := attemptOfDraws r.draws, rng := r.rng, omem := m } := ⟨_, rfl⟩

/-- The end of a KEYGEN changes `ATTEMPT`, the RNG stream, OMEM and the completion flags only. -/
theorem writeKey_frame : Completes s (s.writeKey pf pt pi r) ∧ SameG s (s.writeKey pf pt pi r)
    ∧ SameP s (s.writeKey pf pt pi r) ∧ SameShape s (s.writeKey pf pt pi r)
    ∧ (s.writeKey pf pt pi r).valid = s.valid ∧ (s.writeKey pf pt pi r).phase = s.phase := by
  obtain ⟨m, hm⟩ := writeKey_eq_of_omem s pf pt pi r
  rw [hm]
  exact ⟨completes_of rfl rfl rfl ⟨rfl, rfl, rfl, rfl, rfl, rfl, rfl, rfl, rfl⟩, fun _ => rfl, fun _ => rfl,
    ⟨⟨rfl, rfl, rfl, rfl, rfl⟩, rfl, rfl⟩, rfl, rfl⟩

/-- OMEM at the end of a KEYGEN, the last write first. -/
theorem omemByte_writeKey (x : Nat) : (s.writeKey pf pt pi r).omemByte x =
    if baseOf s pi ≤ x ∧ x < baseOf s pi + s.nDim * s.nDim then
      matAt r.tinv ((x - baseOf s pi) / s.nDim) ((x - baseOf s pi) % s.nDim)
    else if baseOf s pt ≤ x ∧ x < baseOf s pt + s.nDim * s.nDim then
      matAt r.t ((x - baseOf s pt) / s.nDim) ((x - baseOf s pt) % s.nDim)
    else if baseOf s pf ≤ x ∧ x < baseOf s pf + r.fbuf.length then r.fbuf.getD (x - baseOf s pf) 0#8
    else s.omemByte x := by
  refine (omemByte_writeMat ..).trans ?_
  rw [omemByte_writeMat, omemByte_writeBytes]
  rfl

end WriteKey

/-- Settles O39: the run ends at the first invertible candidate, and its three buffers are what is written. -/
theorem keygenWritesTheFirstInvertibleKey : Obligations.KeygenWritesTheFirstInvertibleKey := by
  intro pf pt pi s a e n len hdim hfits hbudget hbytes hsing hinv
  have hfuel := passes_le_keyFuel hdim hbytes
  have hleft (k : Nat) (hk : k ≤ a) : s.params.keygenBudget ≠ some k := fun h => absurd (hbudget k h) (by omega)
  obtain ⟨hstage, hdraws, ht, htinv, hrng⟩ :=
    keyRunFor_found (fuel := s.keyFuel) hleft hbytes hsing hinv (by omega)
  have hfbuf : (s.keyRunFor s.keyFuel).fbuf = s.rng.take len :=
    (keySound_keyRunFor s s.keyFuel).fbuf (by simp [hstage])
  obtain ⟨hcompletes, hg, hp, hshape, hvalid, hphase⟩ := writeKey_frame s pf pt pi (s.keyRunFor s.keyFuel)
  refine ⟨_, exec_keygen_found (keygenChecks_pass hdim hfits) hstage, hcompletes, hg, hp, hshape, hvalid, hphase,
    congrArg attemptOfDraws hdraws, hrng, fun x => ?_⟩
  have hlen : (s.rng.take len).length = len := List.length_take_of_le (by omega)
  rw [omemByte_writeKey, ht, htinv, hfbuf, hlen]
  refine ite_congr rfl (fun _ => rfl) fun _ => ite_congr rfl (fun hin => ?_) fun _ =>
    ite_congr rfl (fun hin => ?_) fun _ => rfl
  · exact matAt_candidateT_byte s a (show x - baseOf s pt < n * n by omega)
  · simpa using getD_take_drop s.rng 0 (show x - baseOf s pf < len by omega)

/-- The T and T inverse of a found key, read back from regions apart, undo each other. -/
theorem writeKey_inverse_pair {s : State} {pf pt pi : PReg} {r : KeyRun} (hrows : HasRows s.nDim r.t)
    (hinv : minv s.nDim r.t = some r.tinv)
    (hapart : Apart (baseOf s pt) (s.nDim * s.nDim) (baseOf s pi) (s.nDim * s.nDim)) {x : Vec}
    (hx : x.length = s.nDim) :
    let matT := matOn (s.writeKey pf pt pi r) (baseOf s pt) s.nDim
    let matInverse := matOn (s.writeKey pf pt pi r) (baseOf s pi) s.nDim
    matvec s.nDim s.nDim matInverse (matvec s.nDim s.nDim matT x) = x
      ∧ matvec s.nDim s.nDim matT (matvec s.nDim s.nDim matInverse x) = x := by
  intro matT matInverse
  have hreadT (y : Vec) : matvec s.nDim s.nDim matT y = matvec s.nDim s.nDim r.t y :=
    matvec_congr (fun i j hi hj => by
      rw [show matT = _ from matOn_completeCommand .., matOn_writeMat_of_apart _ hapart,
        matAt_matOn_writeMat _ _ hi hj]) y
  have hreadInverse (y : Vec) : matvec s.nDim s.nDim matInverse y = matvec s.nDim s.nDim r.tinv y :=
    matvec_congr (fun i j hi hj => by
      rw [show matInverse = _ from matOn_completeCommand .., matAt_matOn_writeMat _ _ hi hj]) y
  rw [hreadInverse, hreadT, hreadT, hreadInverse]
  have hundo {y z : Vec} := matvec_eq_iff_of_minv (x := y) (y := z) hrows hinv
  exact ⟨(hundo hx (matvec_length ..)).1 rfl, (hundo (matvec_length ..) hx).2 rfl⟩

/-- Settles O43: a KEYGEN that completes has found T with its inverse, and has written both. -/
theorem completedKeygenLeavesAnInversePair : Obligations.CompletedKeygenLeavesAnInversePair := by
  intro pf pt pi s t n hbusy _ hexec hidle hnoerr hapart x hx
  obtain ⟨hstage, rfl⟩ := eq_writeKey_of_completed hbusy hexec hidle hnoerr
  obtain ⟨hrows, hinv⟩ := (keySound_keyRunFor s s.keyFuel).inverse hstage
  obtain ⟨-, -, hp, -⟩ := writeKey_frame s pf pt pi (s.keyRunFor s.keyFuel)
  have hbase (p : PReg) : baseOf (s.writeKey pf pt pi (s.keyRunFor s.keyFuel)) p = baseOf s p :=
    congrArg BitVec.toNat (hp p)
  rw [hbase, hbase]
  exact writeKey_inverse_pair hrows hinv hapart hx

end Sys2Proof.Machine

/-! PROOFS of the statements about the signer (44_signer): the vinegar system, DRAWV and BUILDSYS, and the run, the ends
and the visible points of SIGN. -/
namespace Sys2Proof.Machine

/-! ## The system of the vinegar values (R193) -/

section System
variable {v m i : Nat} {f : List Poly} {xv tgt : Vec}

theorem vecAt_map {e : Poly → Byte} (hi : i < f.length) : vecAt (f.map e) i = e f[i] := by
  simp [vecAt, hi]

theorem matRow_sysMat (hi : i < f.length) : matRow (sysMat v m f xv) i = vecOf m (coef v f[i] xv) := by
  simp [matRow, sysMat, hi]

theorem hasRows_sysMat (hf : f.length = m) : HasRows m (sysMat v m f xv) := fun i hi => by
  rw [matRow_sysMat (hf.symm ▸ hi), vecOf_length]

theorem matAt_sysMat {j : Nat} (hi : i < f.length) (hj : j < m) : matAt (sysMat v m f xv) i j = coef v f[i] xv j := by
  rw [matAt, matRow_sysMat hi, vecAt_vecOf hj]

theorem sysVec_length (htgt : tgt.length = f.length) : (sysVec v f xv tgt).length = f.length := by
  rw [sysVec, List.length_zipWith, htgt, Nat.min_self]

theorem vecAt_sysVec (hi : i < f.length) (htgt : tgt.length = f.length) :
    vecAt (sysVec v f xv tgt) i = vecAt tgt i ^^^ vinpart v f[i] xv := by
  simp [vecAt, sysVec, fsub, hi, htgt]

end System

/-- What is left of the target when the vinegar's part is taken off. -/
theorem xor_eq_iff_eq_xor (a b c : Byte) : a ^^^ b = c ↔ b = c ^^^ a := by
  rw [BitVec.xor_comm, ← BitVec.xor_left_inj a, BitVec.xor_assoc, BitVec.xor_self, BitVec.xor_zero]

/-- Settles O38: row i of both sides says that polynomial i, affine in the oil values (R167), takes its target. -/
theorem systemSolutionsHitTheTarget : Obligations.SystemSolutionsHitTheTarget := by
  intro n v m f xv xo tgt hn hf htgt hxv hxo
  subst hn hxv hf
  rw [matvec_eq_iff (sysVec_length htgt)]
  have hrow (i : Nat) (hi : i < f.length) :
      vecAt (evaluateAll (xv.length + f.length) xv.length f (xv ++ xo)) i = vecAt tgt i
        ↔ rowProd f.length (sysMat xv.length f.length f xv) xo i = vecAt (sysVec xv.length f xv tgt) i := by
    have hprod : rowProd f.length (sysMat xv.length f.length f xv) xo i
        = xorUpTo f.length (fun j => fmul (coef xv.length f[i] xv j) (vecAt xo j)) :=
      xorUpTo_congr fun j hj => congrArg (fmul · _) (matAt_sysMat hi hj)
    rw [evaluateAll, vecAt_map hi, evaluate_append, hprod, vecAt_sysVec hi htgt]
    exact xor_eq_iff_eq_xor ..
  rw [← forall₂_congr hrow]
  exact ⟨fun h _ _ => h ▸ rfl, vec_ext (evaluateAll_length ..) htgt⟩

/-! ## The entry checks (R266) -/

section Checks
variable {dim fmt ranges : Bool}

/-- The error of dimensions, format and ranges is that of the first to fail. -/
theorem firstError_three_eq_some {e : ErrorKind} :
    firstError [(dim, .dimension), (fmt, .format), (ranges, .addressRange)] = some e
      ↔ (¬ dim = true ∧ e = .dimension) ∨ (dim = true ∧ ¬ fmt = true ∧ e = .format)
        ∨ (dim = true ∧ fmt = true ∧ ¬ ranges = true ∧ e = .addressRange) := by
  simp only [firstError_cons, firstError_nil]
  cases dim with
  | false => simp [eq_comm]
  | true =>
    cases fmt with
    | false => simp [eq_comm]
    | true => cases ranges <;> simp [eq_comm]

theorem firstError_three_eq_none :
    firstError [(dim, .dimension), (fmt, .format), (ranges, .addressRange)] = none
      ↔ dim = true ∧ fmt = true ∧ ranges = true := by
  simp [firstError_eq_none]

end Checks

theorem tgtLenOk_iff (s : State) : decide (s.tgtLen.toNat = s.mDim) = true ↔ s.tgtLen = s.dimM :=
  decide_eq_true_iff.trans BitVec.toNat_inj

/-! ## DRAWV (R192) -/

section Drawv
variable {s : State} {pd : PReg} (hdim : DimOK s) (hfits : Fits s pd s.vDim)
include hdim hfits

theorem exec_drawv_waits (hshort : s.rng.length < s.vDim) : exec (.drawv pd) s = .next s := by
  rw [exec_of_shape_of_ranges (i := .drawv pd) rfl ((dimOk_iff s).2 hdim) ((regionOk_iff ..).2 hfits),
    draw_of_short hshort]

theorem exec_drawv_draws (hbytes : s.vDim ≤ s.rng.length) :
    exec (.drawv pd) s = .next (completeCommand
      ({ s with rng := s.rng.drop s.vDim }.writeBytes (baseOf s pd) (s.rng.take s.vDim))) := by
  rw [exec_of_shape_of_ranges (i := .drawv pd) rfl ((dimOk_iff s).2 hdim) ((regionOk_iff ..).2 hfits),
    draw_of_enough hbytes]
  rfl

end Drawv

/-- Settles O44: after the two checks the outcome is that of the draw. -/
theorem drawVinegarCommand : Obligations.DrawVinegarCommand := by
  intro pd s v
  refine ⟨encodesAs_of_encode_eq (joinWord_fieldsRegs_one ..), fun hdim => ?_, fun hdim hout => ?_,
    fun hdim hfits hshort => ?_, fun hdim hfits hbytes => ?_⟩
  · exact faults_of_shape rfl ((dimOk_iff s).not.2 hdim)
  · exact faults_of_ranges rfl ((dimOk_iff s).2 hdim) ((regionOk_iff s pd v).not.2 hout)
  · exact ⟨s, exec_drawv_waits hdim hfits hshort, staysInFlight_of_progress s s.phase s.attempt s.progress,
      ⟨rfl, rfl, rfl⟩, rfl⟩
  · exact ⟨_, exec_drawv_draws hdim hfits hbytes, completeCommand_writeDrawn (baseOf s pd) hbytes rfl⟩

/-! ## The system read from OMEM (R194, R65) -/

section Records
variable {s : State}

theorem readVec_length (s : State) (r : PReg) (len : Nat) : (s.readVec r len).length = len := readBytes_length ..

theorem getElem_readMap (pf : PReg) {i : Nat} (hi : i < (s.readMap pf).length) :
    (s.readMap pf)[i] = polyOfBytes s.nDim s.vDim ((s.readBytes (s.ptr pf) s.mapSize).drop (i * s.psz)) := by
  simp [State.readMap, mapOfBytes, State.psz]

/-- `vinpart` of a record, over its bytes. -/
theorem vinpart_record (hdim : DimOK s) {base : Nat} {bytes : List Byte} {xv : Vec} {e : Nat → Byte}
    (hrecord : ∀ d, d < pszOf s → bytes.getD d 0#8 = s.omemByte (base + d))
    (hxv : ∀ k, k < s.vDim → vecAt xv k = e k) :
    vinpart s.vDim (polyOfBytes s.nDim s.vDim bytes) xv = vinOn s base e := by
  obtain ⟨-, -, -, hvn, -⟩ := hdim
  change s.vDim ≤ s.nDim at hvn
  have hpsz : pszOf s = s.vDim * s.vDim + s.vDim * (s.nDim - s.vDim) + s.nDim + 1 := rfl
  have hbyte {d a : Nat} (ha : base + d = a) (hd : d < pszOf s) : bytes.getD d 0#8 = s.omemByte a :=
    ha ▸ hrecord d hd
  refine congrArg₂ (· ^^^ ·) (congrArg₂ (· ^^^ ·) ?const ?vv) ?lin
  case const => exact hbyte (by simp only [Nat.add_assoc]; rfl) (by omega)
  case vv =>
    refine xorUpTo_congr fun i hi => xorUpTo_congr fun j hj => ?_
    have hindex := rowMajor_lt hi hj
    refine congrArg₂ fmul (congrArg₂ fmul ?_ (hxv i hi)) (hxv j hj)
    exact (matAt_matOfBytes hi hj _).trans (hbyte (Nat.add_assoc ..).symm (by omega))
  case lin =>
    refine xorUpTo_congr fun k hk => congrArg₂ fmul ?_ (hxv k hk)
    exact (vecAt_vecOf (by omega) _).trans (hbyte (by simp only [Nat.add_assoc]; rfl) (by omega))

variable (hdim : DimOK s) (pf pt : PReg) {xv : Vec} {e : Nat → Byte} (hxv : ∀ k, k < s.vDim → vecAt xv k = e k)
  {i : Nat} (hi : i < s.mDim)
include hdim hxv hi

/-- Element i, j of the matrix A of the map and of some vinegar values. -/
theorem matAt_sysMat_readMap {j : Nat} (hj : j < s.mDim) :
    matAt (sysMat s.vDim s.mDim (s.readMap pf) xv) i j = coefOn s (baseOf s pf + i * pszOf s) e j := by
  rw [matAt_sysMat (readMap_length s pf ▸ hi) hj, getElem_readMap, coef_record s pf hdim xv hi hj]
  exact congrArg (· ^^^ _) (xorUpTo_congr fun k hk => congrArg (fmul _) (hxv k hk))

/-- Element i of the vector b of the map, the target and some vinegar values. -/
theorem vecAt_sysVec_readMap : vecAt (sysVec s.vDim (s.readMap pf) xv (s.readVec pt s.mDim)) i
    = s.omemByte (baseOf s pt + i) ^^^ vinOn s (baseOf s pf + i * pszOf s) e := by
  have hlen := readMap_length s pf
  rw [vecAt_sysVec (hlen ▸ hi) ((readVec_length ..).trans hlen.symm), vecAt_readVec hi, getElem_readMap,
    vinpart_record hdim (fun d hd => readMap_record_byte s pf hi hd) hxv]

end Records

theorem sysVec_readMap_length (s : State) (pf pt : PReg) (xv : Vec) :
    (sysVec s.vDim (s.readMap pf) xv (s.readVec pt s.mDim)).length = s.mDim := by
  have hlen := readMap_length s pf
  exact (sysVec_length ((readVec_length ..).trans hlen.symm)).trans hlen

/-! ## BUILDSYS (R194) -/

section Buildsys
variable {s : State} {pa pb pf px pt : PReg}

/-- The end of a BUILDSYS: A is written, then b. -/
def State.writeSystem (s : State) (pa pb pf px pt : PReg) : State :=
  completeCommand
    ((s.writeMat (baseOf s pa) s.mDim s.mDim (sysMat s.vDim s.mDim (s.readMap pf) (s.readVec px s.vDim))).writeBytes
      (baseOf s pb) (sysVec s.vDim (s.readMap pf) (s.readVec px s.vDim) (s.readVec pt s.mDim)))

/-- The regions of BUILDSYS are in range (R194). -/
def BuildsysFits (s : State) (pa pb pf px pt : PReg) : Prop :=
  Fits s pf s.mapSize ∧ Fits s px s.vDim ∧ Fits s pt s.mDim ∧ Fits s pa (s.mDim * s.mDim) ∧ Fits s pb s.mDim

theorem buildsysRegionsOk_iff : (s.regionOk pf s.mapSize && s.regionOk px s.vDim && s.regionOk pt s.mDim
    && s.regionOk pa (s.mDim * s.mDim) && s.regionOk pb s.mDim) = true ↔ BuildsysFits s pa pb pf px pt := by
  simp only [Bool.and_eq_true, regionOk_iff, and_assoc, BuildsysFits]

theorem buildsys_faults {e : ErrorKind} (h : (¬ DimOK s ∧ e = .dimension)
    ∨ (DimOK s ∧ s.tgtLen ≠ s.dimM ∧ e = .format)
    ∨ (DimOK s ∧ s.tgtLen = s.dimM ∧ ¬ BuildsysFits s pa pb pf px pt ∧ e = .addressRange)) :
    Faults (.buildsys pa pb pf px pt) e s := by
  rw [← dimOk_iff, ne_eq, ← tgtLenOk_iff, ← buildsysRegionsOk_iff] at h
  exact faults_of_exec (withChecks_of_some (firstError_three_eq_some.2 h) _ _)

theorem exec_buildsys (hdim : DimOK s) (htgt : s.tgtLen = s.dimM) (hin : BuildsysFits s pa pb pf px pt) :
    exec (.buildsys pa pb pf px pt) s = .next (s.writeSystem pa pb pf px pt) :=
  withChecks_of_none (firstError_three_eq_none.2
    ⟨(dimOk_iff s).2 hdim, (tgtLenOk_iff s).2 htgt, buildsysRegionsOk_iff.2 hin⟩) _ _

/-- Completing after any change of OMEM leaves all else but the completion flags. -/
theorem completeCommand_setOmem (s : State) (cells : Memory) :
    CompletesPlain s (completeCommand { s with omem := cells })
    ∧ SameG s (completeCommand { s with omem := cells }) ∧ SameP s (completeCommand { s with omem := cells }) :=
  ⟨⟨completes_of rfl rfl rfl ⟨rfl, rfl, rfl, rfl, rfl, rfl, rfl, rfl, rfl⟩, ⟨⟨rfl, rfl, rfl, rfl, rfl⟩, rfl, rfl⟩,
    ⟨rfl, rfl, rfl⟩, rfl⟩, fun _ => rfl, fun _ => rfl⟩

/-- The two writes are one change of OMEM. -/
theorem writeSystem_eq_of_omem (s : State) (pa pb pf px pt : PReg) :
    ∃ cells, s.writeSystem pa pb pf px pt = completeCommand { s with omem := cells } := ⟨_, rfl⟩

theorem writeSystem_frame (s : State) (pa pb pf px pt : PReg) :
    CompletesPlain s (s.writeSystem pa pb pf px pt) ∧ SameG s (s.writeSystem pa pb pf px pt)
      ∧ SameP s (s.writeSystem pa pb pf px pt) := by
  obtain ⟨cells, hcells⟩ := writeSystem_eq_of_omem s pa pb pf px pt
  exact hcells ▸ completeCommand_setOmem s cells

/-- OMEM at the end of a BUILDSYS, the last write first. -/
theorem omemByte_writeSystem (hdim : DimOK s) (x : Nat) : (s.writeSystem pa pb pf px pt).omemByte x =
    if baseOf s pb ≤ x ∧ x < baseOf s pb + s.mDim then
      s.omemByte (baseOf s pt + (x - baseOf s pb))
        ^^^ vinOn s (baseOf s pf + (x - baseOf s pb) * pszOf s) (fun k => s.omemByte (baseOf s px + k))
    else if baseOf s pa ≤ x ∧ x < baseOf s pa + s.mDim * s.mDim then
      coefOn s (baseOf s pf + (x - baseOf s pa) / s.mDim * pszOf s) (fun k => s.omemByte (baseOf s px + k))
        ((x - baseOf s pa) % s.mDim)
    else s.omemByte x := by
  have hm : 0 < s.mDim := by obtain ⟨-, -, hm, -⟩ := hdim; exact hm
  have hxv (k : Nat) (hk : k < s.vDim) : vecAt (s.readVec px s.vDim) k = s.omemByte (baseOf s px + k) :=
    vecAt_readVec hk
  refine (omemByte_writeBytes ..).trans ?_
  rw [sysVec_readMap_length, omemByte_writeMat]
  refine ite_congr rfl (fun hb => ?_) fun _ => ite_congr rfl (fun ha => ?_) fun _ => rfl
  · exact vecAt_sysVec_readMap hdim pf pt hxv (by omega)
  · exact matAt_sysMat_readMap hdim pf hxv (Nat.div_lt_of_lt_mul (by omega)) (Nat.mod_lt _ hm)

end Buildsys

/-- Settles O45: after the three checks the two writes are one change of OMEM, b over A. -/
theorem buildSystemCommand : Obligations.BuildSystemCommand := by
  intro pa pb pf px pt s v m ranges xv
  refine ⟨encodesAs_of_encode_eq rfl, fun hdim => buildsys_faults (.inl ⟨hdim, rfl⟩),
    fun hdim htgt => buildsys_faults (.inr (.inl ⟨hdim, htgt, rfl⟩)),
    fun hdim htgt hout => buildsys_faults (.inr (.inr ⟨hdim, htgt, hout, rfl⟩)), fun hdim htgt hin => ?_⟩
  obtain ⟨hplain, hg, hp⟩ := writeSystem_frame s pa pb pf px pt
  exact ⟨_, exec_buildsys hdim htgt hin, hplain, hg, hp, omemByte_writeSystem hdim⟩

/-- The word of a command with four register operands. -/
theorem joinWord_fieldsRegs_four (op : BitVec 8) (f5 f4 f3 f2 : BitVec 4) :
    joinWord (fieldsRegs op f5 f4 f3 f2 0) = op ++ (f5 ++ (f4 ++ (f3 ++ (f2 ++ 0#8)))) :=
  have low : 0#4 ++ 0#4 = 0#8 := rfl
  congrArg (fun low => op ++ (f5 ++ (f4 ++ (f3 ++ (f2 ++ low))))) low

/-! ## The entry checks of SIGN (R196) -/

section SignChecks
variable {s : State} {ps pf pi pt : PReg}

theorem signRegionsOk_iff : (s.regionOk pf s.mapSize && s.regionOk pi (s.nDim * s.nDim) && s.regionOk pt s.mDim
    && s.regionOk ps s.nDim) = true ↔ SignFits s ps pf pi pt := by
  simp only [Bool.and_eq_true, regionOk_iff, and_assoc]
  rfl

theorem firstError_signChecks_eq_some {e : ErrorKind} : firstError (signChecks ps pf pi pt s) = some e ↔
    (¬ DimOK s ∧ e = .dimension) ∨ (DimOK s ∧ s.tgtLen ≠ s.dimM ∧ e = .format)
      ∨ (DimOK s ∧ s.tgtLen = s.dimM ∧ ¬ SignFits s ps pf pi pt ∧ e = .addressRange) := by
  rw [← dimOk_iff, ne_eq, ← tgtLenOk_iff, ← signRegionsOk_iff]
  exact firstError_three_eq_some

theorem firstError_signChecks_eq_none : firstError (signChecks ps pf pi pt s) = none ↔
    DimOK s ∧ s.tgtLen = s.dimM ∧ SignFits s ps pf pi pt := by
  rw [← dimOk_iff, ← tgtLenOk_iff, ← signRegionsOk_iff]
  exact firstError_three_eq_none

theorem exec_sign_faults_at_entry {e : ErrorKind} (h : firstError (signChecks ps pf pi pt s) = some e) :
    exec (.sign ps pf pi pt) s = .next (raiseError e { s with attempt := 0#32, phase := .idle }) :=
  withChecks_of_some h _ _

end SignChecks

/-- Settles O48: a SIGN that fails an entry check has set `ATTEMPT` and `PHASE` and drawn nothing. -/
theorem signEntryChecks : Obligations.SignEntryChecks := by
  intro ps pf pi pt s
  refine ⟨encodesAs_of_encode_eq (joinWord_fieldsRegs_four ..), fun e he => ?_⟩
  exact ⟨_, exec_sign_faults_at_entry (firstError_signChecks_eq_some.2 he),
    raiseError_latches e { s with attempt := 0#32, phase := .idle }, rfl, rfl, rfl, rfl⟩

/-! ## The arrows of R191 -/

section Arrows
variable {v m : Nat} {f : List Poly} {tgt : Vec} {r q : SignRun}

theorem signNext_solve_solvable {e : Mat} (h : r.phase = .solve) (hinv : minv m r.a = some e) :
    signNext v m f tgt r = some { r with phase := .success, ainv := e, steps := r.steps + 1 } := by
  simp only [signNext, h, hinv]

theorem signNext_solve_exhausted (h : r.phase = .solve) (hsing : minv m r.a = none)
    (hbudget : Config.signBudget ≤ r.attempt) :
    signNext v m f tgt r = some { r with phase := .failure, steps := r.steps + 1 } := by
  simp only [signNext, h, hsing, if_neg (Nat.not_lt.2 hbudget)]

/-- The signer stands still in the states that no arrow leaves. -/
theorem signNext_ended (h : r.phase = .idle ∨ r.phase = .success ∨ r.phase = .failure) :
    signNext v m f tgt r = none := by
  rcases h with h | h | h <;> rw [signNext, h]

variable (v m f tgt r) in
/-- The arrows of R191, with what each does to the local values. -/
inductive SignArrow : SignRun → Prop where
  | draw (hphase : r.phase = .drawVinegar) (hbytes : v ≤ r.rng.length) : SignArrow
      { r with phase := .buildSystem, xv := r.rng.take v, rng := r.rng.drop v, steps := r.steps + 1 }
  | build (hphase : r.phase = .buildSystem) : SignArrow
      { r with phase := .solve, a := sysMat v m f r.xv, b := sysVec v f r.xv tgt, steps := r.steps + 1 }
  | solvable (e : Mat) (hphase : r.phase = .solve) (hinv : minv m r.a = some e) : SignArrow
      { r with phase := .success, ainv := e, steps := r.steps + 1 }
  | singular (hphase : r.phase = .solve) (hsing : minv m r.a = none) (hbudget : r.attempt < Config.signBudget) :
      SignArrow { r with phase := .retry, steps := r.steps + 1 }
  | exhausted (hphase : r.phase = .solve) (hsing : minv m r.a = none) (hbudget : Config.signBudget ≤ r.attempt) :
      SignArrow { r with phase := .failure, steps := r.steps + 1 }
  | retry (hphase : r.phase = .retry) : SignArrow
      { r with phase := .drawVinegar, attempt := r.attempt + 1, steps := r.steps + 1 }

/-- The transition function takes exactly the arrows. -/
theorem signNext_eq_some_iff : signNext v m f tgt r = some q ↔ SignArrow v m f tgt r q := by
  constructor
  · intro h
    cases hphase : r.phase with
    | drawVinegar =>
      obtain ⟨hbytes, ⟨⟩⟩ := Option.ite_none_right_eq_some.1 ((signNext_drawVinegar hphase).symm.trans h)
      exact .draw hphase hbytes
    | buildSystem =>
      cases (signNext_buildSystem hphase).symm.trans h
      exact .build hphase
    | solve =>
      cases hinv : minv m r.a with
      | some e =>
        cases (signNext_solve_solvable hphase hinv).symm.trans h
        exact .solvable e hphase hinv
      | none =>
        rcases Nat.lt_or_ge r.attempt Config.signBudget with hleft | hspent
        · cases (signNext_solve_singular hphase hinv hleft).symm.trans h
          exact .singular hphase hinv hleft
        · cases (signNext_solve_exhausted hphase hinv hspent).symm.trans h
          exact .exhausted hphase hinv hspent
    | retry =>
      cases (signNext_retry hphase).symm.trans h
      exact .retry hphase
    | idle => cases (signNext_ended (.inl hphase)).symm.trans h
    | success => cases (signNext_ended (.inr (.inl hphase))).symm.trans h
    | failure => cases (signNext_ended (.inr (.inr hphase))).symm.trans h
  · rintro (⟨hphase, hbytes⟩ | hphase | ⟨e, hphase, hinv⟩ | ⟨hphase, hsing, hbudget⟩ | ⟨hphase, hsing, hbudget⟩ |
      hphase)
    · exact (signNext_drawVinegar hphase).trans (if_pos hbytes)
    · exact signNext_buildSystem hphase
    · exact signNext_solve_solvable hphase hinv
    · exact signNext_solve_singular hphase hsing hbudget
    · exact signNext_solve_exhausted hphase hsing hbudget
    · exact signNext_retry hphase

theorem SignArrow.attempt_le (h : SignArrow v m f tgt r q) : r.attempt ≤ q.attempt := by
  cases h with
  | retry => exact Nat.le_succ _
  | draw | build | solvable | singular | exhausted => exact le_rfl

/-- What every arrow keeps holds along a run. -/
theorem signRun_induction {P : SignRun → Prop} (harrow : ∀ r q, SignArrow v m f tgt r q → P r → P q) (hr : P r)
    (fuel : Nat) : P (signRun v m f tgt fuel r) := by
  induction fuel generalizing r with
  | zero => exact hr
  | succ fuel ih =>
    cases hnext : signNext v m f tgt r with
    | none => rwa [signRun_of_none hnext]
    | some q =>
      rw [signRun_of_some hnext]
      exact ih (harrow r q (signNext_eq_some_iff.1 hnext) hr)

variable (v m f tgt r) in
/-- One more arrow at the end of a run. -/
theorem signRun_succ (k : Nat) :
    signRun v m f tgt (k + 1) r = (signNext v m f tgt (signRun v m f tgt k r)).getD (signRun v m f tgt k r) := by
  rw [signRun_add, signRun]
  cases signNext v m f tgt (signRun v m f tgt k r) <;> rfl

theorem signRun_attempt_mono {j k : Nat} (h : j ≤ k) :
    (signRun v m f tgt j r).attempt ≤ (signRun v m f tgt k r).attempt := by
  obtain ⟨more, rfl⟩ := Nat.exists_eq_add_of_le h
  rw [signRun_add]
  exact signRun_induction (P := fun q => (signRun v m f tgt j r).attempt ≤ q.attempt)
    (fun _ _ harrow hle => hle.trans harrow.attempt_le) le_rfl more

end Arrows

/-! ## The ends of a run (R191)

After some singular attempts a run draws the next system and, in SOLVE, leaves the loop for SUCCESS, or for FAILURE
after the attempt number 1000. -/

section Ends
variable {s : State} (pf pt : PReg)

/-- The vinegar values of attempt number j + 1, as the run draws them. -/
def State.vinegarVec (s : State) (j : Nat) : Vec := (s.rng.drop (j * s.vDim)).take s.vDim

theorem vinegarVec_length {j : Nat} (hbytes : (j + 1) * s.vDim ≤ s.rng.length) : (s.vinegarVec j).length = s.vDim := by
  rw [Nat.succ_mul] at hbytes
  rw [State.vinegarVec, List.length_take, List.length_drop]
  omega

theorem vecAt_vinegarVec (j : Nat) {k : Nat} (hk : k < s.vDim) : vecAt (s.vinegarVec j) k = vinegarOf s j k :=
  getD_take_drop _ _ hk

/-- The run with the system of attempt number j + 1 drawn and built. -/
def SignRun.afterBuild (s : State) (pf pt : PReg) (j : Nat) (r : SignRun) : SignRun :=
  { r with
    phase := .solve, attempt := j + 1, xv := s.vinegarVec j, a := attemptMat s pf j
    b := sysVec s.vDim (s.readMap pf) (s.vinegarVec j) (s.readVec pt s.mDim)
    rng := s.rng.drop ((j + 1) * s.vDim), steps := r.steps + 2 }

variable {pf pt}

/-- After j singular attempts, with the bytes of another offered, the run stands in SOLVE with its system. -/
theorem signRunFor_solve (hdim : DimOK s) {j : Nat} (hbudget : j < Config.signBudget)
    (hbytes : (j + 1) * s.vDim ≤ s.rng.length) (hsing : ∀ k, k < j → minv s.mDim (attemptMat s pf k) = none) :
    s.signRunFor pf pt (4 * j + 2) = (s.signRunFor pf pt (4 * j)).afterBuild s pf pt j := by
  have hfewer : j * s.vDim ≤ s.rng.length := le_trans (Nat.mul_le_mul_right _ (Nat.le_succ j)) hbytes
  obtain ⟨hphase, hattempt, hrng⟩ := signRunFor_draw pf pt hdim j hbudget hfewer hsing
  rw [Nat.succ_mul] at hbytes
  have henough : s.vDim ≤ (s.signRunFor pf pt (4 * j)).rng.length := by rw [hrng, List.length_drop]; omega
  rw [State.signRunFor, signRun_add, ← State.signRunFor,
    signRun_of_some ((signNext_drawVinegar hphase).trans (if_pos henough)), signRun_of_some (signNext_buildSystem rfl),
    signRun, hrng, sysMat_attempt s pf hdim, List.drop_drop, hattempt, ← Nat.succ_mul]
  rfl

/-- How a run ends in SUCCESS at attempt number j + 1, with e for the inverse of its matrix. -/
def SolvedAt (s : State) (pf pt : PReg) (j : Nat) (e : Mat) (r : SignRun) : Prop :=
  r.phase = .success ∧ r.attempt = j + 1 ∧ r.xv = s.vinegarVec j ∧ r.ainv = e
    ∧ r.b = sysVec s.vDim (s.readMap pf) (s.vinegarVec j) (s.readVec pt s.mDim)
    ∧ r.rng = s.rng.drop ((j + 1) * s.vDim)

/-- The first solvable attempt ends the run. -/
theorem signRunFor_success (hdim : DimOK s) {j fuel : Nat} {e : Mat} (hbudget : j < Config.signBudget)
    (hbytes : (j + 1) * s.vDim ≤ s.rng.length) (hsing : ∀ k, k < j → minv s.mDim (attemptMat s pf k) = none)
    (hinv : minv s.mDim (attemptMat s pf j) = some e) (hfuel : 4 * j + 3 ≤ fuel) :
    SolvedAt s pf pt j e (s.signRunFor pf pt fuel) := by
  obtain ⟨more, rfl⟩ := Nat.exists_eq_add_of_le hfuel
  rw [show 4 * j + 3 + more = 4 * j + 2 + (more + 1) by omega, State.signRunFor, signRun_add, ← State.signRunFor,
    signRunFor_solve hdim hbudget hbytes hsing, signRun_of_some (signNext_solve_solvable rfl hinv),
    signRun_of_none (signNext_ended (.inr (.inl rfl)))]
  exact ⟨rfl, rfl, rfl, rfl, rfl, rfl⟩

/-- 1000 singular attempts end the run in FAILURE. -/
theorem signRunFor_failure (hdim : DimOK s) (hbytes : 1000 * s.vDim ≤ s.rng.length)
    (hsing : ∀ k, k < 1000 → minv s.mDim (attemptMat s pf k) = none) :
    (s.signRunFor pf pt signFuel).phase = .failure ∧ (s.signRunFor pf pt signFuel).attempt = 1000
      ∧ (s.signRunFor pf pt signFuel).rng = s.rng.drop (1000 * s.vDim) := by
  have hlast : 999 < Config.signBudget := by decide
  have hsolve := signRunFor_solve (pt := pt) hdim hlast hbytes fun k hk => hsing k (by omega)
  rw [show signFuel = 4 * 999 + 2 + (1 + 1) from rfl, State.signRunFor, signRun_add, ← State.signRunFor, hsolve,
    signRun_of_some (signNext_solve_exhausted rfl (hsing 999 (by omega)) le_rfl),
    signRun_of_none (signNext_ended (.inr (.inr rfl)))]
  exact ⟨rfl, rfl, rfl⟩

end Ends

/-! ## What SIGN does with its run (R196) -/

section SignEnds
variable {s : State} {ps pf pi pt : PReg}

/-- The end of a SIGN whose run has reached SUCCESS. -/
def State.writeSignature (s : State) (ps pi : PReg) (r : SignRun) : State :=
  completeCommand ({ s with
    attempt := BitVec.ofNat 32 r.attempt, phase := .success, rng := r.rng, sigLen := s.dimN }.writeBytes (baseOf s ps)
      (signature s.nDim s.mDim r.ainv r.b r.xv (matOn s (baseOf s pi) s.nDim)))

theorem exec_sign_success (hchecks : firstError (signChecks ps pf pi pt s) = none)
    (hphase : (s.signRunFor pf pt signFuel).phase = .success) :
    exec (.sign ps pf pi pt) s = .next (s.writeSignature ps pi (s.signRunFor pf pt signFuel)) := by
  change execSign ps pf pi pt s = _
  rw [execSign, withChecks_of_none hchecks]
  simp only [hphase]
  rfl

theorem exec_sign_failure (hchecks : firstError (signChecks ps pf pi pt s) = none)
    (hphase : (s.signRunFor pf pt signFuel).phase = .failure) :
    exec (.sign ps pf pi pt) s = .next (raiseError .signingExhausted { s with
      attempt := BitVec.ofNat 32 (s.signRunFor pf pt signFuel).attempt, phase := .failure
      rng := (s.signRunFor pf pt signFuel).rng }) := by
  change execSign ps pf pi pt s = _
  rw [execSign, withChecks_of_none hchecks]
  simp only [hphase]

/-- A SIGN in flight that ends without an error has passed its checks and reached SUCCESS: each other way leaves an
error or BUSY. -/
theorem eq_writeSignature_of_completed {t : State} (hbusy : s.busy = true)
    (hexec : exec (.sign ps pf pi pt) s = .next t) (hidle : t.busy = false) (hnoerr : t.err = false) :
    firstError (signChecks ps pf pi pt s) = none ∧ (s.signRunFor pf pt signFuel).phase = .success
      ∧ t = s.writeSignature ps pi (s.signRunFor pf pt signFuel) := by
  cases hchecks : firstError (signChecks ps pf pi pt s) with
  | some e =>
    cases (exec_sign_faults_at_entry hchecks).symm.trans hexec
    cases hnoerr
  | none =>
    cases hphase : (s.signRunFor pf pt signFuel).phase with
    | success =>
      cases (exec_sign_success hchecks hphase).symm.trans hexec
      exact ⟨rfl, rfl, rfl⟩
    | failure =>
      cases (exec_sign_failure hchecks hphase).symm.trans hexec
      cases hnoerr
    | idle | drawVinegar | buildSystem | solve | retry =>
      change execSign ps pf pi pt s = _ at hexec
      rw [execSign, withChecks_of_none hchecks] at hexec
      simp only [hphase] at hexec
      cases hexec
      cases hbusy.symm.trans hidle

/-- The end of a SIGN in SUCCESS changes its results, the signature's region and the completion flags only. -/
theorem writeSignature_frame (s : State) (ps pi : PReg) (r : SignRun) {t : State} (ht : t = s.writeSignature ps pi r) :
    Completes s t ∧ SameG s t ∧ SameP s t ∧ SameDims s t ∧ t.tgtLen = s.tgtLen ∧ t.sigLen = s.dimN
      ∧ t.valid = s.valid ∧ t.phase = .success ∧ t.attempt = BitVec.ofNat 32 r.attempt ∧ t.rng = r.rng
      ∧ SameOmemOutside (baseOf s ps) s.nDim s t
      ∧ ∀ i, i < s.nDim → t.omemByte (baseOf s ps + i)
        = rowProd s.nDim (matOn s (baseOf s pi) s.nDim) (r.xv ++ matvec s.mDim s.mDim r.ainv r.b) i := by
  subst ht
  obtain ⟨⟨hcompletes, ⟨hdims, hsigLen, htgtLen⟩, ⟨hvalid, hphase, hattempt⟩, hrng⟩, hg, hp, hframe, hbytes⟩ :=
    completeCommand_writeBytes { s with
      attempt := BitVec.ofNat 32 r.attempt, phase := .success, rng := r.rng, sigLen := s.dimN } (baseOf s ps)
      (signature_length s.nDim s.mDim r.ainv r.b r.xv (matOn s (baseOf s pi) s.nDim))
  exact ⟨hcompletes, hg, hp, hdims, htgtLen, hsigLen, hvalid, hphase, hattempt, hrng, hframe,
    fun i hi => (hbytes i hi).trans (vecAt_matvec hi _ _)⟩

theorem vecAt_append (x y : Vec) (k : Nat) :
    vecAt (x ++ y) k = if k < x.length then vecAt x k else vecAt y (k - x.length) := by
  split
  next hlt => exact vecAt_append_left hlt
  next hge => exact List.getD_append_right x y 0#8 k (Nat.le_of_not_lt hge)

theorem DimOK.nDim_eq (hdim : DimOK s) : s.nDim = s.vDim + s.mDim := by
  obtain ⟨-, -, -, hvn, hsplit⟩ := hdim
  exact (Nat.add_sub_of_le hvn).symm.trans (congrArg (s.vDim + ·) hsplit)

/-- The vinegar values of attempt number j + 1, and behind them the product of a matrix and its vector b. -/
theorem vecAt_vinegar_append_oil (hdim : DimOK s) {j k : Nat} (hbytes : (j + 1) * s.vDim ≤ s.rng.length) (e : Mat)
    (hk : k < s.nDim) :
    vecAt (s.vinegarVec j ++ matvec s.mDim s.mDim e
        (sysVec s.vDim (s.readMap pf) (s.vinegarVec j) (s.readVec pt s.mDim))) k
      = if k < s.vDim then vinegarOf s j k
        else xorUpTo s.mDim (fun i => fmul (matAt e (k - s.vDim) i) (attemptVec s pf pt j i)) := by
  have hn := hdim.nDim_eq
  rw [vecAt_append, vinegarVec_length hbytes]
  refine ite_congr rfl (fun hlt => vecAt_vinegarVec j hlt) fun hge => ?_
  rw [vecAt_matvec (by omega)]
  exact xorUpTo_congr fun i hi =>
    congrArg (fmul _) (vecAt_sysVec_readMap hdim pf pt (fun _ => vecAt_vinegarVec j) hi)

end SignEnds

/-- Settles O46: the run ends at the first solvable attempt, with its vinegar values, its vector b and the inverse. -/
theorem signWritesTheSignature : Obligations.SignWritesTheSignature := by
  intro ps pf pi pt s a ainv n v m u hdim htgt hfits hbudget hbytes hsing hinv
  have hfuel : 4 * a + 3 ≤ signFuel := by change _ ≤ 4 * 1000; omega
  obtain ⟨hphase, hattempt, hxv, hainv, hb, hrng⟩ := signRunFor_success (pt := pt) hdim hbudget hbytes hsing hinv hfuel
  obtain ⟨hcompletes, hg, hp, hdims, htgtLen, hsigLen, hvalid, hsuccess, hcount, hleft, hframe, hbyte⟩ :=
    writeSignature_frame s ps pi (s.signRunFor pf pt signFuel) rfl
  rw [hxv, hainv, hb] at hbyte
  refine ⟨_, exec_sign_success (signChecks_pass hdim htgt hfits) hphase, hcompletes, hg, hp, hdims, htgtLen, hsigLen,
    hvalid, hsuccess, hattempt ▸ hcount, hleft.trans hrng, hframe, fun i hi => ?_⟩
  refine (hbyte i hi).trans (xorUpTo_congr fun j hj => ?_)
  exact congrArg₂ fmul (matAt_matOn hi hj) (vecAt_vinegar_append_oil hdim hbytes ainv hj)

/-- Settles O47: the run of 1000 singular systems ends in FAILURE, before anything is written. -/
theorem signExhaustsAfterThousandAttempts : Obligations.SignExhaustsAfterThousandAttempts := by
  intro ps pf pi pt s hdim htgt hfits hbytes hsing
  obtain ⟨hphase, hattempt, hrng⟩ := signRunFor_failure (pt := pt) hdim hbytes hsing
  refine ⟨_, exec_sign_failure (signChecks_pass hdim htgt hfits) hphase, raiseError_latches _ { s with
    attempt := _, phase := _, rng := _ }, rfl, rfl, congrArg (BitVec.ofNat 32) hattempt, hrng⟩

/-- Settles O49: of the first 1000 systems either one is the first solvable one, or all are singular. -/
theorem signTerminatesWithinItsBudget : Obligations.SignTerminatesWithinItsBudget := by
  intro ps pf pi pt s hdim htgt hfits hbytes
  by_cases hsome : ∃ a, a < 1000 ∧ minv s.mDim (attemptMat s pf a) ≠ none
  · obtain ⟨hbudget, hsolvable⟩ := Nat.find_spec hsome
    have hfirst (k : Nat) (hk : k < Nat.find hsome) : minv s.mDim (attemptMat s pf k) = none := by
      by_contra hne
      exact Nat.find_min hsome hk ⟨by omega, hne⟩
    generalize Nat.find hsome = a at hbudget hsolvable hfirst
    obtain ⟨e, hinv⟩ := Option.ne_none_iff_exists'.1 hsolvable
    obtain ⟨t, hexec, ⟨hidle, hdone, -, herr, -⟩, -, -, -, -, -, -, hphase, hattempt, hrng, -⟩ :=
      signWritesTheSignature ps pf pi pt s a e hdim htgt hfits hbudget
        (le_trans (Nat.mul_le_mul_right _ hbudget) hbytes) hfirst hinv
    have hcount : t.attempt.toNat = a + 1 := by
      rw [hattempt, BitVec.toNat_ofNat, Nat.mod_eq_of_lt (by omega)]
    exact ⟨t, hexec, hidle, hdone, by omega, by omega, by rw [hcount]; exact hrng, .inl ⟨hphase, herr⟩⟩
  · have hall (k : Nat) (hk : k < 1000) : minv s.mDim (attemptMat s pf k) = none := by
      by_contra hne
      exact hsome ⟨k, hk, hne⟩
    obtain ⟨t, hexec, ⟨hidle, hdone, -, herr, hcode, -⟩, -, hphase, hattempt, hrng⟩ :=
      signExhaustsAfterThousandAttempts ps pf pi pt s hdim htgt hfits hbytes hall
    have hcount : t.attempt.toNat = 1000 := by rw [hattempt]; rfl
    exact ⟨t, hexec, hidle, hdone, by omega, by omega, by rw [hcount]; exact hrng, .inr ⟨hphase, herr, hcode, hattempt⟩⟩

/-! ## The points of SIGN and KEYGEN the host can see (R197) -/

section Progress
variable {s : State}

theorem engineProgress_sign {ps pf pi pt : PReg} (hbusy : s.busy = true)
    (hdecode : decode s.cmd = some (.sign ps pf pi pt)) : engineProgress s = signProgress ps pf pi pt s := by
  rw [engineProgress, if_pos hbusy, hdecode]

theorem engineProgress_keygen {pf pt pi : PReg} (hbusy : s.busy = true)
    (hdecode : decode s.cmd = some (.keygen pf pt pi)) : engineProgress s = keygenProgress pf pt pi s := by
  rw [engineProgress, if_pos hbusy, hdecode]

theorem step_progress_sign {ps pf pi pt : PReg} {rest : List Event} (hbusy : s.busy = true)
    (hdecode : decode s.cmd = some (.sign ps pf pi pt)) (hagenda : s.agenda = .progress :: rest) :
    step s = .next (signProgress ps pf pi pt { s with agenda := rest }) :=
  (nextEvent_cons hagenda).trans
    (congrArg Host.Outcome.next (engineProgress_sign (s := { s with agenda := rest }) hbusy hdecode))

theorem step_progress_keygen {pf pt pi : PReg} {rest : List Event} (hbusy : s.busy = true)
    (hdecode : decode s.cmd = some (.keygen pf pt pi)) (hagenda : s.agenda = .progress :: rest) :
    step s = .next (keygenProgress pf pt pi { s with agenda := rest }) :=
  (nextEvent_cons hagenda).trans
    (congrArg Host.Outcome.next (engineProgress_keygen (s := { s with agenda := rest }) hbusy hdecode))

theorem signProgress_of_faulty {ps pf pi pt : PReg} (h : ¬ (DimOK s ∧ s.tgtLen = s.dimM ∧ SignFits s ps pf pi pt)) :
    signProgress ps pf pi pt s = s := by
  obtain ⟨e, he⟩ := Option.ne_none_iff_exists'.1 (firstError_signChecks_eq_none.not.2 h)
  simp only [signProgress, he]

theorem signProgress_of_checked {ps pf pi pt : PReg} (h : DimOK s ∧ s.tgtLen = s.dimM ∧ SignFits s ps pf pi pt) :
    signProgress ps pf pi pt s = if (s.signRunFor pf pt s.progress).phase = .success then s else
      { s with
        phase := (s.signRunFor pf pt s.progress).phase
        attempt := BitVec.ofNat 32 (s.signRunFor pf pt s.progress).attempt
        progress := (s.signRunFor pf pt s.progress).steps + 1 } := by
  rw [signProgress, firstError_signChecks_eq_none.2 h]
  dsimp only
  cases hphase : (s.signRunFor pf pt s.progress).phase with
  | success => rfl
  | idle | drawVinegar | buildSystem | solve | retry | failure => rfl

theorem firstError_keygenChecks_eq_none {pf pt pi : PReg} :
    firstError (keygenChecks pf pt pi s) = none ↔ DimOK s ∧ KeygenFits s pf pt pi := by
  rw [← dimOk_iff, ← keygenRegionsOk_iff]
  simp [firstError_eq_none, keygenChecks]

theorem keygenProgress_of_faulty {pf pt pi : PReg} (h : ¬ (DimOK s ∧ KeygenFits s pf pt pi)) :
    keygenProgress pf pt pi s = s := by
  obtain ⟨e, he⟩ := Option.ne_none_iff_exists'.1 (firstError_keygenChecks_eq_none.not.2 h)
  simp only [keygenProgress, he]

theorem keygenProgress_of_checked {pf pt pi : PReg} (h : DimOK s ∧ KeygenFits s pf pt pi) :
    keygenProgress pf pt pi s
      = if (s.keyRunFor s.progress).stage = .found ∨ (s.keyRunFor s.progress).stage = .exhausted then s else
      { s with
        attempt := attemptOfDraws (s.keyRunFor s.progress).draws
        progress := (s.keyRunFor s.progress).steps + 1 } := by
  rw [keygenProgress, firstError_keygenChecks_eq_none.2 h]
  dsimp only
  cases hstage : (s.keyRunFor s.progress).stage with
  | found | exhausted => rfl
  | drawF | test | drawT | invert => rfl

end Progress

/-- The arrows of R191, each with its states and what it does to `ATTEMPT` and to the stream. -/
theorem SignArrow.cases_phase {v m : Nat} {f : List Poly} {tgt : Vec} {r q : SignRun} (h : SignArrow v m f tgt r q) :
    (r.phase = .drawVinegar ∧ q.phase = .buildSystem ∧ q.attempt = r.attempt ∧ q.rng = r.rng.drop v)
      ∨ (r.phase = .buildSystem ∧ q.phase = .solve ∧ q.attempt = r.attempt ∧ q.rng = r.rng)
      ∨ (r.phase = .solve ∧ q.phase = .success ∧ q.attempt = r.attempt ∧ (minv m r.a).isSome = true)
      ∨ (r.phase = .solve ∧ q.phase = .retry ∧ q.attempt = r.attempt ∧ minv m r.a = none ∧ r.attempt < 1000)
      ∨ (r.phase = .solve ∧ q.phase = .failure ∧ q.attempt = r.attempt ∧ minv m r.a = none ∧ 1000 ≤ r.attempt)
      ∨ (r.phase = .retry ∧ q.phase = .drawVinegar ∧ q.attempt = r.attempt + 1 ∧ q.rng = r.rng) := by
  cases h with
  | draw hphase => exact .inl ⟨hphase, rfl, rfl, rfl⟩
  | build hphase => exact .inr (.inl ⟨hphase, rfl, rfl, rfl⟩)
  | solvable e hphase hinv => exact .inr (.inr (.inl ⟨hphase, rfl, rfl, Option.isSome_of_eq_some hinv⟩))
  | singular hphase hsing hbudget => exact .inr (.inr (.inr (.inl ⟨hphase, rfl, rfl, hsing, hbudget⟩)))
  | exhausted hphase hsing hbudget => exact .inr (.inr (.inr (.inr (.inl ⟨hphase, rfl, rfl, hsing, hbudget⟩))))
  | retry hphase => exact .inr (.inr (.inr (.inr (.inr ⟨hphase, rfl, rfl, rfl⟩))))

/-- In SOLVE a singular matrix leads to RETRY while attempts are left, and to FAILURE after the last. -/
theorem signNext_singular {v m : Nat} {f : List Poly} {tgt : Vec} {r : SignRun} (hphase : r.phase = .solve)
    (hsing : minv m r.a = none) :
    ∃ q, signNext v m f tgt r = some q ∧ q.phase = if r.attempt < 1000 then .retry else .failure := by
  split
  next hleft => exact ⟨_, signNext_solve_singular hphase hsing hleft, rfl⟩
  next hspent => exact ⟨_, signNext_solve_exhausted hphase hsing (Nat.le_of_not_lt hspent), rfl⟩

/-- Settles O50: the transition function is the six arrows and nothing else, a run takes them one after another, and a
progress event shows where the run stands. -/
theorem signerStateMachineArrows : Obligations.SignerStateMachineArrows := by
  refine ⟨fun v m f tgt => ⟨fun r q h => (signNext_eq_some_iff.1 h).cases_phase, fun r => ⟨?_, ?_, ?_, ?_, ?_, ?_, ?_⟩,
    fun s => ⟨rfl, rfl, rfl⟩, fun r j k => signRun_attempt_mono, fun r k => ⟨rfl, signRun_succ v m f tgt r k⟩⟩, ?_, ?_⟩
  · exact fun hphase hbytes => ⟨_, (signNext_drawVinegar hphase).trans (if_pos hbytes), rfl, rfl⟩
  · exact fun hphase hshort => (signNext_drawVinegar hphase).trans (if_neg (Nat.not_le.2 hshort))
  · exact fun hphase => ⟨_, signNext_buildSystem hphase, rfl, rfl, rfl⟩
  · exact fun e hphase hinv => ⟨_, signNext_solve_solvable hphase hinv, rfl, rfl⟩
  · exact fun hphase hsing => signNext_singular hphase hsing
  · exact fun hphase => ⟨_, signNext_retry hphase, rfl, rfl⟩
  · exact fun hphase => signNext_ended (.inr hphase)
  · intro ps pf pi pt s rest hbusy hdecode hagenda
    rw [step_progress_sign hbusy hdecode hagenda]
    exact ⟨fun h => congrArg _ (signProgress_of_checked (s := { s with agenda := rest }) h),
      fun h => congrArg _ (signProgress_of_faulty (s := { s with agenda := rest }) h)⟩
  · intro pf pt pi s rest hbusy hdecode hagenda
    rw [step_progress_keygen hbusy hdecode hagenda]
    exact ⟨fun h => congrArg _ (keygenProgress_of_checked (s := { s with agenda := rest }) h),
      fun h => congrArg _ (keygenProgress_of_faulty (s := { s with agenda := rest }) h)⟩

/-! ## The signature of a completed SIGN (R200, R222) -/

/-- What a run of R191 has found: the vinegar values, the system built from them, and the inverse of its matrix. -/
structure SignSound (v m : Nat) (f : List Poly) (tgt : Vec) (r : SignRun) : Prop where
  vinegar : r.phase = .buildSystem ∨ r.phase = .solve ∨ r.phase = .success → r.xv.length = v
  system : r.phase = .solve ∨ r.phase = .success → r.a = sysMat v m f r.xv ∧ r.b = sysVec v f r.xv tgt
  inverse : r.phase = .success → minv m r.a = some r.ainv

section SignSound
variable {v m : Nat} {f : List Poly} {tgt : Vec}

theorem SignSound.of_arrow {r q : SignRun} (harrow : SignArrow v m f tgt r q) (h : SignSound v m f tgt r) :
    SignSound v m f tgt q := by
  cases harrow with
  | draw _ hbytes => exact ⟨fun _ => List.length_take_of_le hbytes, by simp, nofun⟩
  | build hphase => exact ⟨fun _ => h.vinegar (.inl hphase), fun _ => ⟨rfl, rfl⟩, nofun⟩
  | solvable e hphase hinv =>
    exact ⟨fun _ => h.vinegar (.inr (.inl hphase)), fun _ => h.system (.inl hphase), fun _ => hinv⟩
  | singular | exhausted | retry => exact ⟨by simp, by simp, nofun⟩

theorem signSound_start (s : State) : SignSound v m f tgt s.signStart := by
  constructor <;> simp [State.signStart]

theorem signSound_signRunFor (s : State) (pf pt : PReg) (fuel : Nat) :
    SignSound s.vDim s.mDim (s.readMap pf) (s.readVec pt s.mDim) (s.signRunFor pf pt fuel) :=
  signRun_induction (fun _ _ => SignSound.of_arrow) (signSound_start s) fuel

/-- The oil values that a solvable system gives hit the target. -/
theorem SignSound.evaluateAll_eq_target {r : SignRun} (h : SignSound v m f tgt r) (hphase : r.phase = .success)
    (hf : f.length = m) (htgt : tgt.length = m) :
    evaluateAll (v + m) v f (r.xv ++ matvec m m r.ainv r.b) = tgt := by
  obtain ⟨ha, hb⟩ := h.system (.inr hphase)
  have hinv := h.inverse hphase
  rw [ha] at hinv
  have hblen : r.b.length = m := by rw [hb, sysVec_length (htgt.trans hf.symm), hf]
  have hsolves := (matvec_eq_iff_of_minv (hasRows_sysMat hf) hinv (matvec_length ..) hblen).2 rfl
  exact (systemSolutionsHitTheTarget _ v m f r.xv _ tgt rfl hf htgt (h.vinegar (.inr (.inr hphase)))
    (matvec_length ..)).2 (hsolves.trans hb)

/-- T undoes T inverse, and what is left hits the target. -/
theorem SignSound.verifySig_signature {r : SignRun} (h : SignSound v m f tgt r) (hphase : r.phase = .success)
    (hf : f.length = m) (htgt : tgt.length = m) {n : Nat} (hn : n = v + m) {t tinv : Mat}
    (hundo : ∀ x : Vec, x.length = n → matvec n n t (matvec n n tinv x) = x) :
    verifySig n v f t tgt (signature n m r.ainv r.b r.xv tinv) = true := by
  subst hn
  have hlen : (r.xv ++ matvec m m r.ainv r.b).length = v + m := by
    rw [List.length_append, h.vinegar (.inr (.inr hphase)), matvec_length]
  rw [verifySig, signature, hundo _ hlen]
  exact decide_eq_true (h.evaluateAll_eq_target hphase hf htgt)

end SignSound

/-- A write elsewhere leaves the bytes of a region as they were. -/
theorem readBytes_writeBytes_of_apart (s : State) {base len other : Nat} {bs : List Byte}
    (hapart : Apart other bs.length base len) : (s.writeBytes other bs).readBytes base len = s.readBytes base len :=
  List.map_congr_left fun _ hin => by
    have hk := List.mem_range.1 hin
    rw [omemByte_writeBytes, if_neg (by unfold Apart at hapart; omega)]

/-- Bytes read back from where they were written. -/
theorem readBytes_writeBytes_same (s : State) (base : Nat) (bs : List Byte) :
    (s.writeBytes base bs).readBytes base bs.length = bs :=
  vec_ext (readBytes_length ..) rfl fun _ hk =>
    (readBytes_getD _ _ _ _ hk).trans (omemByte_writeBytes_inside s base bs hk)

/-- A square matrix in OMEM is made of the bytes of its region. -/
theorem matOn_eq_matOfBytes (s : State) (base k : Nat) : matOn s base k = matOfBytes k k (s.readBytes base (k * k)) :=
  matOf_congr fun i j hi hj => by rw [readBytes_getD _ _ _ _ (rowMajor_lt hi hj), Nat.add_assoc]

/-- A VERIFY that passes its checks (R220); its regions are those of SIGN, with T for T inverse. -/
theorem exec_verify {s : State} {pf pm pt ps : PReg} (hdim : DimOK s) (hsig : s.sigLen = s.dimN)
    (htgt : s.tgtLen = s.dimM) (hfits : SignFits s ps pf pm pt) :
    exec (.verify pf pm pt ps) s = .next (completeCommand { s with
      valid := verifySig s.nDim s.vDim (s.readMap pf) (matOn s (baseOf s pm) s.nDim) (s.readVec pt s.mDim)
        (s.readVec ps s.nDim) }) :=
  have hlengths : (decide (s.sigLen.toNat = s.nDim) && decide (s.tgtLen.toNat = s.mDim)) = true :=
    Bool.and_eq_true_iff.2 ⟨decide_eq_true (congrArg BitVec.toNat hsig), (tgtLenOk_iff s).2 htgt⟩
  withChecks_of_none (firstError_three_eq_none.2 ⟨(dimOk_iff s).2 hdim, hlengths, signRegionsOk_iff.2 hfits⟩) _ _

section WriteSignature
variable (s : State) (ps pi : PReg) (r : SignRun)

/-- After a SIGN every region apart from the signature's reads as before. -/
theorem readBytes_writeSignature_of_apart {base len : Nat} (hapart : Apart (baseOf s ps) s.nDim base len) :
    (s.writeSignature ps pi r).readBytes base len = s.readBytes base len :=
  readBytes_writeBytes_of_apart _ ((signature_length ..).symm ▸ hapart)

theorem readVec_writeSignature : (s.writeSignature ps pi r).readVec ps s.nDim
    = signature s.nDim s.mDim r.ainv r.b r.xv (matOn s (baseOf s pi) s.nDim) := by
  have hsame := readBytes_writeBytes_same { s with
    attempt := BitVec.ofNat 32 r.attempt, phase := .success, rng := r.rng, sigLen := s.dimN } (baseOf s ps)
    (signature s.nDim s.mDim r.ainv r.b r.xv (matOn s (baseOf s pi) s.nDim))
  rwa [signature_length] at hsame

variable {s ps pi r} {pf pt pm : PReg}

/-- VERIFY reads the F, T and target that SIGN read, and the signature that SIGN wrote. -/
theorem verifySig_writeSignature (hdim : DimOK s)
    (hsound : SignSound s.vDim s.mDim (s.readMap pf) (s.readVec pt s.mDim) r) (hphase : r.phase = .success)
    (hundo : ∀ x : Vec, x.length = s.nDim → matvec s.nDim s.nDim (matOn s (baseOf s pm) s.nDim)
      (matvec s.nDim s.nDim (matOn s (baseOf s pi) s.nDim) x) = x)
    (hmap : Apart (baseOf s ps) s.nDim (baseOf s pf) s.mapSize)
    (hmat : Apart (baseOf s ps) s.nDim (baseOf s pm) (s.nDim * s.nDim))
    (htgt : Apart (baseOf s ps) s.nDim (baseOf s pt) s.mDim) :
    verifySig s.nDim s.vDim ((s.writeSignature ps pi r).readMap pf)
      (matOn (s.writeSignature ps pi r) (baseOf s pm) s.nDim) ((s.writeSignature ps pi r).readVec pt s.mDim)
      ((s.writeSignature ps pi r).readVec ps s.nDim) = true := by
  have hread {base len : Nat} := readBytes_writeSignature_of_apart s ps pi r (base := base) (len := len)
  have hreadMap : (s.writeSignature ps pi r).readMap pf = s.readMap pf := congrArg (mapOfBytes _ _ _) (hread hmap)
  have hreadVec : (s.writeSignature ps pi r).readVec pt s.mDim = s.readVec pt s.mDim := hread htgt
  rw [hreadMap, matOn_eq_matOfBytes, hread hmat, ← matOn_eq_matOfBytes, hreadVec, readVec_writeSignature]
  exact hsound.verifySig_signature hphase (readMap_length s pf) (readVec_length s pt s.mDim) hdim.nDim_eq hundo

end WriteSignature

/-- Settles O52: a SIGN that completes has reached SUCCESS, where its oil values solve the system of its vinegar
values. -/
theorem signatureOfACompletedSignVerifies : Obligations.SignatureOfACompletedSignVerifies := by
  intro ps pf pi pt pm s t n m hbusy _ hexec hidle hnoerr hpm hundo hapartF hapartT hapartTgt
  obtain ⟨hchecks, hphase, rfl⟩ := eq_writeSignature_of_completed hbusy hexec hidle hnoerr
  obtain ⟨hdim, htgt, hpf, -, hpt, hps⟩ := firstError_signChecks_eq_none.1 hchecks
  have hvalid := verifySig_writeSignature hdim (signSound_signRunFor s pf pt signFuel) hphase hundo hapartF hapartT
    hapartTgt
  exact ⟨_, exec_verify (s := s.writeSignature ps pi (s.signRunFor pf pt signFuel)) hdim rfl htgt
    ⟨hpf, hpm, hpt, hps⟩, hvalid, hnoerr, rfl⟩

end Sys2Proof.Machine

/-! PROOFS of the statements about the verifier (45_verifier): its entry checks, and what VALID says of the bytes of
OMEM. -/
namespace Sys2Proof.Machine

section Verify
variable {s : State} {pf pm pt ps : PReg}

/-! ## The entry checks (R220, R266) -/

theorem verifyLengthsOk_iff (s : State) : (decide (s.sigLen.toNat = s.nDim) && decide (s.tgtLen.toNat = s.mDim)) = true
    ↔ s.sigLen = s.dimN ∧ s.tgtLen = s.dimM := by
  rw [Bool.and_eq_true, tgtLenOk_iff]
  exact and_congr_left' (decide_eq_true_iff.trans BitVec.toNat_inj)

/-- A VERIFY that fails a check; its regions are those of SIGN, with T for T inverse. -/
theorem exec_verify_faults {e : ErrorKind} (h : (¬ DimOK s ∧ e = .dimension)
    ∨ (DimOK s ∧ ¬ (s.sigLen = s.dimN ∧ s.tgtLen = s.dimM) ∧ e = .format)
    ∨ (DimOK s ∧ (s.sigLen = s.dimN ∧ s.tgtLen = s.dimM) ∧ ¬ SignFits s ps pf pm pt ∧ e = .addressRange)) :
    exec (.verify pf pm pt ps) s = .next (raiseError e { s with valid := false }) := by
  rw [← dimOk_iff, ← verifyLengthsOk_iff, ← signRegionsOk_iff] at h
  exact withChecks_of_some (firstError_three_eq_some.2 h) _ _

/-! ## What VALID says (R221) -/

/-- Element i of T times sigma, over the bytes of OMEM. -/
def signatureImage (s : State) (pm ps : PReg) (i : Nat) : Byte :=
  xorUpTo s.nDim (fun j => fmul (s.omemByte (baseOf s pm + i * s.nDim + j)) (s.omemByte (baseOf s ps + j)))

theorem vecAt_matvec_matOn_readVec {i : Nat} (hi : i < s.nDim) :
    vecAt (matvec s.nDim s.nDim (matOn s (baseOf s pm) s.nDim) (s.readVec ps s.nDim)) i = signatureImage s pm ps i :=
  (vecAt_matvec hi _ _).trans (xorUpTo_congr fun _ hj => congrArg₂ fmul (matAt_matOn hi hj) (vecAt_readVec hj))

/-- Element i of the map's value at a vector, over the bytes of record i. -/
theorem vecAt_evaluateAll_record (hdim : DimOK s) (pf : PReg) {x : Vec} {e : Nat → Byte}
    (hx : ∀ k, k < s.nDim → vecAt x k = e k) {i : Nat} (hi : i < s.mDim) :
    vecAt (evaluateAll s.nDim s.vDim (s.readMap pf) x) i = evalOn s (baseOf s pf + i * pszOf s) e := by
  rw [evaluateAll, vecAt_map (readMap_length s pf ▸ hi), getElem_readMap]
  exact evaluate_record hdim (fun d hd => readMap_record_byte s pf hi hd) hx

/-- `verify` compares two vectors of m elements, so it is a comparison of their elements. -/
theorem verifySig_iff (hdim : DimOK s) :
    verifySig s.nDim s.vDim (s.readMap pf) (matOn s (baseOf s pm) s.nDim) (s.readVec pt s.mDim) (s.readVec ps s.nDim)
        = true
      ↔ ∀ i, i < s.mDim →
        evalOn s (baseOf s pf + i * pszOf s) (signatureImage s pm ps) = s.omemByte (baseOf s pt + i) := by
  rw [verifySig, decide_eq_true_iff]
  have helem {i : Nat} (hi : i < s.mDim) := vecAt_evaluateAll_record hdim pf
    (fun _ hk => vecAt_matvec_matOn_readVec (pm := pm) (ps := ps) hk) hi
  constructor
  · intro heq i hi
    rw [← helem hi, heq, vecAt_readVec hi]
  · intro h
    refine vec_ext ((evaluateAll_length ..).trans (readMap_length s pf)) (readVec_length s pt s.mDim) fun i hi => ?_
    rw [helem hi, vecAt_readVec hi, h i hi]

/-- Completing with a new VALID changes that bit and the completion flags only. -/
theorem completeCommand_setValid (s : State) (b : Bool) {t : State} (ht : t = completeCommand { s with valid := b }) :
    Completes s t ∧ SameG s t ∧ SameP s t ∧ SameOmem s t ∧ SameShape s t ∧ t.phase = s.phase ∧ t.attempt = s.attempt
      ∧ t.rng = s.rng ∧ t.valid = b := by
  subst ht
  exact ⟨completes_of rfl rfl rfl ⟨rfl, rfl, rfl, rfl, rfl, rfl, rfl, rfl, rfl⟩, fun _ => rfl, fun _ => rfl,
    fun _ => rfl, ⟨⟨rfl, rfl, rfl, rfl, rfl⟩, rfl, rfl⟩, rfl, rfl, rfl, rfl⟩

end Verify

/-- Settles O51: a failed check latches its error with VALID already cleared; otherwise VALID is `verify` of the four
operands read, which is a comparison byte by byte. -/
theorem verifyCommand : Obligations.VerifyCommand := by
  intro pf pm pt ps s n m lengths ranges u
  refine ⟨encodesAs_of_encode_eq (joinWord_fieldsRegs_four ..), fun e he => ?_, fun hdim ⟨hsig, htgt⟩ hfits => ?_⟩
  · exact ⟨_, exec_verify_faults he, raiseError_latches e { s with valid := false }, rfl, rfl, rfl, rfl⟩
  · obtain ⟨hcompletes, hg, hp, homem, hshape, hphase, hattempt, hrng, hvalid⟩ := completeCommand_setValid s _ rfl
    exact ⟨_, exec_verify hdim hsig htgt hfits, hcompletes, hg, hp, homem, hshape, hphase, hattempt, hrng,
      hvalid ▸ verifySig_iff hdim⟩

end Sys2Proof.Machine

/-! PROOFS of the statements about data movement and control (46_data_movement_and_control), and about written-out words
of every family (95_test_vectors). -/
namespace Sys2Proof.Machine

/-- Settles O16: each word is decoded by the model. -/
theorem knownWordsDecodeRight : Obligations.KnownWordsDecodeRight := by
  unfold Obligations.KnownWordsDecodeRight
  decide

/-! ## Words with an immediate (R93) -/

theorem joinWord_fieldsImm16 (op : BitVec 8) (f5 f4 : BitVec 4) (imm : BitVec 16) :
    joinWord (fieldsImm16 op f5 f4 imm) = op ++ (f5 ++ (f4 ++ imm)) :=
  congrArg (fun low => op ++ (f5 ++ (f4 ++ low))) (join16 imm)

theorem joinWord_fieldsImm12 (op : BitVec 8) (f5 f4 : BitVec 4) (imm : BitVec 12) :
    joinWord (fieldsImm12 op f5 f4 imm) = op ++ (f5 ++ (f4 ++ (0#4 ++ imm))) :=
  congrArg (fun low => op ++ (f5 ++ (f4 ++ (0#4 ++ low)))) (join12 imm)

/-- Below the register of GLI, three zero nibbles stand above the joined immediate. -/
theorem encode_gli (gd : GReg) (imm8 : BitVec 8) :
    encode (.gli gd imm8) = 0x01#8 ++ (fieldOfReg gd ++ (0#12 ++ imm8)) := by
  have zeros : 0#4 ++ (0#4 ++ (0#4 ++ imm8)) = 0#12 ++ imm8 := BitVec.append_assoc.symm.trans BitVec.append_assoc.symm
  rw [← zeros]
  exact congrArg (fun low => 0x01#8 ++ (fieldOfReg gd ++ (0#4 ++ (0#4 ++ (0#4 ++ low))))) (join8 imm8)

/-- The two nibbles of the index of CSRW join to the index. -/
theorem encode_csrw (csr : BitVec 8) (imm16 : BitVec 16) : encode (.csrw csr imm16) = 0x09#8 ++ (csr ++ imm16) := by
  have index : csr.extractLsb' 4 4 ++ (csr.extractLsb' 0 4 ++ imm16) = csr ++ imm16 :=
    BitVec.append_assoc.symm.trans (congrArg (· ++ imm16) (join8 csr))
  rw [← index]
  exact joinWord_fieldsImm16 ..

/-! ## Commands with one entry check (R266) -/

section OneCheck
variable {i : Instr} {s : State} {ok : Bool} {e : ErrorKind} {body : Out}
  (hexec : exec i s = withChecks [(ok, e)] s body)
include hexec

theorem faults_of_check (hfail : ¬ ok = true) : Faults i e s :=
  faults_of_exec (hexec.trans (withChecks_of_some (by rw [firstError_cons, if_neg hfail]) _ _))

theorem exec_of_check (hpass : ok = true) : exec i s = body :=
  hexec.trans (withChecks_of_none (by rw [firstError_cons, if_pos hpass, firstError_nil]) _ _)

end OneCheck

/-! ## NOP (R230) -/

/-- Of the rows of the table only that of NOP has the opcode 00. -/
theorem row_of_op_zero : ∀ r ∈ opcodeRows, r.pattern.extractLsb' 24 8 = 0x00#8 → r = ⟨0#32, BitVec.allOnes 32⟩ := by
  decide

/-- The row of NOP masks every bit, so it matches the zero word alone. -/
theorem decode_op_zero {w : Word} (hop : w.extractLsb' 24 8 = 0x00#8) (hw : w ≠ 0#32) : decode w = none := by
  refine decode_eq_none.2 fun r hr hmatch => ?_
  obtain rfl := row_of_op_zero r hr ((op_of_match hr hmatch).symm.trans hop)
  exact hw (BitVec.and_allOnes.symm.trans hmatch)

theorem irq_of_done {s : State} (hdone : s.done = true) (hie : s.ieDone = true) : s.irq = true := by
  rw [State.irq, hdone, hie]
  rfl

/-- Completion itself changes nothing but its flags. -/
theorem completeCommand_completesPlain (s : State) : CompletesPlain s (completeCommand s) :=
  ⟨completes_of rfl rfl rfl ⟨rfl, rfl, rfl, rfl, rfl, rfl, rfl, rfl, rfl⟩, ⟨⟨rfl, rfl, rfl, rfl, rfl⟩, rfl, rfl⟩,
    ⟨rfl, rfl, rfl⟩, rfl⟩

/-- Settles O19: the next state is the completion of the state as it is. -/
theorem nopOnlyCompletes : Obligations.NopOnlyCompletes := by
  refine ⟨encodesAs_of_encode_eq rfl, fun _ => decode_op_zero, fun s => ?_⟩
  have hirq : s.ieDone = true → (completeCommand s).irq = true := irq_of_done (s := completeCommand s) rfl
  exact ⟨_, rfl, completeCommand_completesPlain s, fun _ => rfl, fun _ => rfl, fun _ => rfl, hirq⟩

/-! ## Register moves (R231, R232, R235 to R238) -/

/-- Settles O20: each of the two is one completed write of its G register. -/
theorem fieldRegisterMoves : Obligations.FieldRegisterMoves := by
  intro gd ga imm8 s
  obtain ⟨hplain, hp, homem, hwrite⟩ := completeCommand_writeG s gd imm8
  obtain ⟨hplain', hp', homem', hwrite'⟩ := completeCommand_writeG s gd (s.readG ga)
  exact ⟨encodesAs_of_encode_eq (encode_gli gd imm8), encodesAs_of_encode_eq (joinWord_fieldsRegs_two ..),
    ⟨_, rfl, hplain, hwrite, hp, homem⟩, ⟨_, rfl, hplain', hwrite', hp', homem'⟩⟩

/-- Completing after a write of one P register changes that register and the completion flags. -/
theorem completeCommand_writeP (s : State) (d : PReg) (x : Word) :
    CompletesPlain s (completeCommand (s.writeP d x)) ∧ SameG s (completeCommand (s.writeP d x))
      ∧ SameOmem s (completeCommand (s.writeP d x)) ∧ WritesP d x s (completeCommand (s.writeP d x)) :=
  ⟨completeCommand_completesPlain s, fun _ => rfl, fun _ => rfl, writesP_writeP s d x⟩

/-- PLUI puts its immediate above the low half of the register: as a number, that many times 2^16 more. -/
theorem append_low_half (imm : BitVec 16) (x : Word) :
    imm ++ x.extractLsb' 0 16 = BitVec.ofNat 32 (imm.toNat * 2 ^ 16 + x.toNat % 2 ^ 16) := by
  have hlow : (x.extractLsb' 0 16).toNat = x.toNat % 2 ^ 16 := BitVec.extractLsb'_toNat 0 16 x
  have hsum : imm.toNat * 2 ^ 16 + x.toNat % 2 ^ 16 < 2 ^ 32 := by
    have himm := imm.isLt
    omega
  refine BitVec.eq_of_toNat_eq ?_
  rw [BitVec.toNat_append, hlow, ← Nat.shiftLeft_add_eq_or_of_lt (Nat.mod_lt _ (by decide)), Nat.shiftLeft_eq,
    BitVec.toNat_ofNat, Nat.mod_eq_of_lt hsum]

/-- PADDI adds the signed value of its immediate, modulo 2^32. -/
theorem add_signExtend (x : Word) (simm : BitVec 12) :
    x + simm.signExtend 32 = BitVec.ofInt 32 (x.toNat + simm.toInt) := by
  rw [BitVec.signExtend, BitVec.ofInt_add, BitVec.ofInt_natCast, BitVec.ofNat_toNat, BitVec.setWidth_eq]

/-- Settles O21: each of the four is one completed write of its P register. -/
theorem pointerRegisterMoves : Obligations.PointerRegisterMoves := by
  intro pd pa imm16 simm12 s
  rw [BitVec.ofNat_toNat, ← append_low_half, ← add_signExtend]
  exact ⟨encodesAs_of_encode_eq (joinWord_fieldsImm16 ..), encodesAs_of_encode_eq (joinWord_fieldsImm16 ..),
    encodesAs_of_encode_eq (joinWord_fieldsImm12 ..), encodesAs_of_encode_eq (joinWord_fieldsRegs_two ..),
    ⟨_, rfl, completeCommand_writeP s pd _⟩, ⟨_, rfl, completeCommand_writeP s pd _⟩,
    ⟨_, rfl, completeCommand_writeP s pd _⟩, ⟨_, rfl, completeCommand_writeP s pd _⟩⟩

/-! ## Byte load and store (R233, R234) -/

/-- One byte is in range exactly when its address is below OMEM_SIZE. -/
theorem inRange_one_iff (s : State) (a : Nat) : s.inRange a 1 = true ↔ a < s.params.omemSize := decide_eq_true_iff

/-- Settles O22: the one check is that of the address, and behind it stands one completed write, of a register or of one
byte. -/
theorem byteLoadAndStore : Obligations.ByteLoadAndStore := by
  intro g pa imm12 s
  have hrange : s.inRange (s.effAddr pa imm12) 1 = true ↔ baseOf s pa + imm12.toNat < s.params.omemSize :=
    inRange_one_iff s _
  refine ⟨encodesAs_of_encode_eq (joinWord_fieldsImm12 ..), encodesAs_of_encode_eq (joinWord_fieldsImm12 ..),
    fun hout => ?_, fun hin => ⟨?_, ?_⟩⟩
  · have hfail := hrange.not.2 (Nat.not_lt.2 hout)
    exact ⟨faults_of_check rfl hfail, faults_of_check rfl hfail⟩
  · obtain ⟨hplain, hp, homem, hwrite⟩ := completeCommand_writeG s g (s.omemByte (s.effAddr pa imm12))
    exact ⟨_, exec_of_check rfl (hrange.2 hin), hplain, hp, homem, hwrite⟩
  · obtain ⟨hplain, hg, hp, hframe, hbytes⟩ :=
      completeCommand_writeBytes s (s.effAddr pa imm12) (List.length_singleton (a := s.readG g))
    exact ⟨_, exec_of_check rfl (hrange.2 hin), hplain, hg, hp, hbytes 0 Nat.one_pos, hframe⟩

/-! ## CSRW (R239) -/

/-- The indices of the seven shape CSRs (10_state R27). -/
def Csr.shapeIndex : Csr → Option (BitVec 8)
  | .dimN => some 0x06#8
  | .dimV => some 0x07#8
  | .dimM => some 0x08#8
  | .laRows => some 0x09#8
  | .laCols => some 0x0A#8
  | .sigLen => some 0x0B#8
  | .tgtLen => some 0x0C#8
  | .id | .ctrl | .status | .errcode | .errinfo | .cmd | .attempt | .budget | .omemsz | .gWindow _ | .pWindow _
  | .reserved => none

theorem isShapeCsr_iff (csr : BitVec 8) : isShapeCsr csr = true ↔ 0x06 ≤ csr.toNat ∧ csr.toNat ≤ 0x0C := by
  rw [isShapeCsr, Bool.and_eq_true, decide_eq_true_iff, decide_eq_true_iff]

/-- An index that CSRW may write is that of the shape CSR it names. -/
theorem shapeIndex_csrOfIndex {csr : BitVec 8} (h : isShapeCsr csr = true) :
    (csrOfIndex csr).shapeIndex = some csr := by
  revert csr
  decide

/-- What a CSR reads as after a plain write of a shape CSR: that one keeps the low byte of the word, and every other CSR
is as before, for each shape CSR has a field of its own. -/
theorem csrValue_writePlainCsr {c : Csr} {idx : BitVec 8} (hc : c.shapeIndex = some idx) (d : Csr) (w : Word)
    (s : State) :
    (writePlainCsr c w s).csrValue d = if d = c then (w.setWidth 8).setWidth 32 else s.csrValue d := by
  cases c with
  | dimN | dimV | dimM | laRows | laCols | sigLen | tgtLen => cases d <;> rfl
  | _ => cases hc

/-- Completing after a write of a shape CSR changes neither a register nor OMEM, and of the flags only those of
completion. -/
theorem completeCommand_writePlainCsr {c : Csr} {idx : BitVec 8} (hc : c.shapeIndex = some idx) (w : Word) (s : State) :
    Completes s (completeCommand (writePlainCsr c w s)) ∧ SameG s (completeCommand (writePlainCsr c w s))
      ∧ SameP s (completeCommand (writePlainCsr c w s)) ∧ SameOmem s (completeCommand (writePlainCsr c w s))
      ∧ SameResults s (completeCommand (writePlainCsr c w s)) ∧ (completeCommand (writePlainCsr c w s)).rng = s.rng :=
  match c, hc with
  | .dimN, _ | .dimV, _ | .dimM, _ | .laRows, _ | .laCols, _ | .sigLen, _ | .tgtLen, _ =>
    ⟨completes_of rfl rfl rfl ⟨rfl, rfl, rfl, rfl, rfl, rfl, rfl, rfl, rfl⟩, fun _ => rfl, fun _ => rfl, fun _ => rfl,
      ⟨rfl, rfl, rfl⟩, rfl⟩

/-- Completion shows in no shape CSR. -/
theorem csrValue_completeCommand {c : Csr} {idx : BitVec 8} (hc : c.shapeIndex = some idx) (s : State) :
    (completeCommand s).csrValue c = s.csrValue c :=
  match c, hc with
  | .dimN, _ | .dimV, _ | .dimM, _ | .laRows, _ | .laCols, _ | .sigLen, _ | .tgtLen, _ => rfl

/-- Settles O23: the one check is that of the index, and behind it stands one completed plain write. -/
theorem csrwWritesShapeRegistersOnly : Obligations.CsrwWritesShapeRegistersOnly := by
  intro csr imm16 s
  refine ⟨encodesAs_of_encode_eq (encode_csrw csr imm16),
    fun hout => faults_of_check rfl ((isShapeCsr_iff csr).not.2 hout), fun hlow hhigh => ?_⟩
  have hshape := (isShapeCsr_iff csr).2 ⟨hlow, hhigh⟩
  have hindex := shapeIndex_csrOfIndex hshape
  obtain ⟨hcompletes, hg, hp, homem, hresults, hrng⟩ := completeCommand_writePlainCsr hindex (imm16.setWidth 32) s
  refine ⟨_, exec_csrw_shape hshape imm16 s, hcompletes, hg, hp, homem, hresults, hrng, ?_,
    fun other hne hlow' hhigh' => ?_⟩
  · rw [csrValue_completeCommand hindex, csrValue_writePlainCsr hindex, if_pos rfl, low_byte_of_wide,
      BitVec.toNat_setWidth_of_le (by decide), BitVec.toNat_setWidth]
  · have hindex' := shapeIndex_csrOfIndex ((isShapeCsr_iff other).2 ⟨hlow', hhigh'⟩)
    have hdistinct : csrOfIndex other ≠ csrOfIndex csr := fun heq =>
      hne (Option.some_inj.1 (hindex'.symm.trans (heq ▸ hindex)))
    rw [csrValue_completeCommand hindex', csrValue_writePlainCsr hindex, if_neg hdistinct]

end Sys2Proof.Machine

/-! PROOFS of the statements about exceptions (60_exceptions): what a fault leaves unchanged, how a command is accepted
and ended, the error state, the interrupt level, and the engine's turn. -/
namespace Sys2Proof.Machine

/-! ## Faults are precise (R270, R271) -/

/-- The state in which the command `i`, run from `s`, may take an error: `s` itself, but for the results that KEYGEN,
SIGN and VERIFY have by then, and the bytes that the first two have drawn (60 R270). -/
inductive FaultsFrom (s : State) : Instr → State → Prop where
  | untouched (i : Instr) : FaultsFrom s i s
  | keygen (pf pt pi : PReg) (a : Word) (bytes : List Byte) :
    FaultsFrom s (.keygen pf pt pi) { s with attempt := a, rng := bytes }
  | sign (ps pf pi pt : PReg) (a : Word) (ph : Phase) (bytes : List Byte) :
    FaultsFrom s (.sign ps pf pi pt) { s with attempt := a, phase := ph, rng := bytes }
  | verify (pf pm pt ps : PReg) (b : Bool) : FaultsFrom s (.verify pf pm pt ps) { s with valid := b }

/-- The outcome is a next state with ERR as it was, or one error taken in a state that allows it. -/
inductive EndsPrecisely (i : Instr) (s : State) : Out → Prop where
  | quiet {t : State} (herr : t.err = s.err) : EndsPrecisely i s (.next t)
  | fault {u : State} (hu : FaultsFrom s i u) (e : ErrorKind) : EndsPrecisely i s (.next (raiseError e u))

section Faults
variable {i : Instr} {s u : State}

/-- The latch over a state from which the command may fault changes what R270 lists and nothing else. -/
theorem FaultsFrom.latches (h : FaultsFrom s i u) (e : ErrorKind) : Latches e s (raiseError e u) := by
  cases h <;> exact raiseError_latches e s

theorem FaultsFrom.run_unchanged (h : FaultsFrom s i u) (hkeygen : ∀ a b c, i ≠ .keygen a b c)
    (hsign : ∀ a b c d, i ≠ .sign a b c d) : u.attempt = s.attempt ∧ u.phase = s.phase ∧ u.rng = s.rng := by
  cases h with
  | keygen => exact (hkeygen _ _ _ rfl).elim
  | sign => exact (hsign _ _ _ _ rfl).elim
  | untouched | verify => exact ⟨rfl, rfl, rfl⟩

theorem FaultsFrom.valid_unchanged (h : FaultsFrom s i u) (hverify : ∀ a b c d, i ≠ .verify a b c d) :
    u.valid = s.valid := by
  cases h with
  | verify => exact (hverify _ _ _ _ rfl).elim
  | untouched | keygen | sign => rfl

/-- A guarded command takes the error of a check in the state the checks are given, or does what its body does. -/
theorem FaultsFrom.withChecks (h : FaultsFrom s i u) {checks : List (Bool × ErrorKind)} {body : Out}
    (hbody : EndsPrecisely i s body) : EndsPrecisely i s (withChecks checks u body) := by
  rcases withChecks_cases checks u body with ⟨e, -, heq⟩ | ⟨-, heq⟩
  · rw [heq]; exact .fault h e
  · rw [heq]; exact hbody

theorem keygen_endsPrecisely (pf pt pi : PReg) : EndsPrecisely (.keygen pf pt pi) s (execKeygen pf pt pi s) := by
  refine (FaultsFrom.keygen pf pt pi 0#32 s.rng).withChecks ?_
  dsimp only
  split
  case h_1 => exact .quiet (by simp only [completeCommand_err, writeMat_eq, writeBytes_err])
  case h_2 => exact .fault (.keygen pf pt pi _ _) _
  all_goals exact .quiet rfl

theorem sign_endsPrecisely (ps pf pi pt : PReg) :
    EndsPrecisely (.sign ps pf pi pt) s (execSign ps pf pi pt s) := by
  refine (FaultsFrom.sign ps pf pi pt 0#32 .idle s.rng).withChecks ?_
  dsimp only
  split
  case h_2 => exact .fault (.sign ps pf pi pt _ _ _) _
  all_goals exact .quiet rfl

/-- Every command, in every state: an error is taken by an entry check, by a singular matrix, or by an exhausted run. -/
theorem exec_endsPrecisely (i : Instr) (s : State) : EndsPrecisely i s (exec i s) := by
  have h := FaultsFrom.untouched (s := s) i
  cases i with
  | nop | gli | gmv | pli | plui | paddi | pmv | fadd | fsub | fmul => exact .quiet rfl
  | gld | gst | finv | mvmul | peval | pevala | buildsys => exact h.withChecks (.quiet rfl)
  | csrw csr imm16 =>
    obtain ⟨-, -, herr, -, -⟩ := (Works.writePlainCsr csr imm16 (csrOfIndex csr) (imm16.setWidth 32) s).life
    exact h.withChecks (.quiet herr)
  | minv | msolve =>
    refine h.withChecks ?_
    split
    · exact .fault h _
    · exact .quiet rfl
  | fgen | drawv =>
    refine h.withChecks ?_
    rcases draw_cases s _ with ⟨-, hdraw⟩ | ⟨-, hdraw⟩
    · rw [hdraw]; exact .quiet rfl
    · rw [hdraw]; exact .quiet rfl
  | keygen pf pt pi => exact keygen_endsPrecisely pf pt pi
  | sign ps pf pi pt => exact sign_endsPrecisely ps pf pi pt
  | verify pf pm pt ps => exact (FaultsFrom.verify pf pm pt ps false).withChecks (.quiet rfl)

end Faults

/-- Settles O54: ERR can only have risen by an error taken in a state that allows it. -/
theorem faultsArePrecise : Obligations.FaultsArePrecise := by
  intro i s t hexec hclear hraised
  have hends := exec_endsPrecisely i s
  rw [hexec] at hends
  cases hends with
  | quiet herr => exact absurd (hraised.symm.trans (herr.trans hclear)) (by decide)
  | fault hu e => exact ⟨e, hu.latches e, hu.run_unchanged, hu.valid_unchanged⟩

/-! ## The engine's turn (R264, R289) -/

section EngineTurn
variable {s : State}

theorem engineTurn_of_decode {i : Instr} (hbusy : s.busy = true) (hdecode : decode s.cmd = some i) :
    engineTurn s = exec i s := by
  rw [engineTurn, if_pos hbusy, hdecode]

theorem engineTurn_of_idle (hidle : s.busy = false) : engineTurn s = .next s := by
  rw [engineTurn, if_neg (by simp [hidle])]

theorem step_of_agenda_nil (hagenda : s.agenda = []) : step s = engineTurn s := nextEvent_nil hagenda

theorem step_engine {rest : List Event} (hagenda : s.agenda = .engine :: rest) :
    step s = engineTurn { s with agenda := rest } := nextEvent_cons hagenda

/-- A placed word has been accepted and has the next turn (log 13). -/
theorem step_withFetchWord (s : State) (w : Word) :
    step (s.withFetchWord 32 w.toNat) = engineTurn (acceptCommand w s) := by
  have hword : BitVec.ofNat 32 (w.toNat % 2 ^ 32) = w := by
    rw [Nat.mod_eq_of_lt w.isLt, BitVec.ofNat_toNat, BitVec.setWidth_eq]
  rw [State.withFetchWord, hword]
  exact step_engine rfl

end EngineTurn

/-- Settles O17. -/
theorem stepRunsTheDecodedCommand : Obligations.StepRunsTheDecodedCommand := by
  refine fun s i rest => ⟨fun hbusy hdecode hagenda => ?_, fun hbusy hdecode hagenda => ?_, fun w hdecode => ?_⟩
  · rw [step_engine hagenda]; exact engineTurn_of_decode hbusy hdecode
  · rw [step_of_agenda_nil hagenda]; exact engineTurn_of_decode hbusy hdecode
  · rw [step_withFetchWord]; exact engineTurn_of_decode rfl hdecode

/-- Settles O18. -/
theorem idleEngineKeepsAllState : Obligations.IdleEngineKeepsAllState := by
  refine fun s rest hidle => ⟨fun hagenda => ?_, fun hagenda => ?_⟩
  · rw [step_of_agenda_nil hagenda]; exact engineTurn_of_idle hidle
  · rw [step_engine hagenda]; exact engineTurn_of_idle hidle

/-! ## The words that acceptance looks at (R262, R94) -/

/-- The opcode of the command a word decodes to is the word's. -/
theorem opcodeOf_of_decode {w : Word} {i : Instr} (h : decode w = some i) : opcodeOf i = w.extractLsb' 24 8 := by
  rw [← encodeOfDecodeIsTheWord w i h, encode_op]
  cases i <;> rfl

/-- A word matches a row exactly when it decodes to a command with the row's opcode: rows differ in their opcodes. -/
theorem match_iff_decode_opcode {r : OpcodeRow} (hr : r ∈ opcodeRows) (w : Word) :
    w &&& r.mask = r.pattern ↔ ∃ i, decode w = some i ∧ opcodeOf i = r.pattern.extractLsb' 24 8 := by
  constructor
  · intro hmatch
    obtain ⟨i, hi⟩ := Option.isSome_iff_exists.1 ((decode_isSome w).2 ⟨r, hr, hmatch⟩)
    exact ⟨i, hi, (opcodeOf_of_decode hi).trans (op_of_match hr hmatch)⟩
  · rintro ⟨i, hi, hop⟩
    obtain ⟨q, hq, hmatch⟩ := (decode_isSome w).1 (Option.isSome_iff_exists.2 ⟨i, hi⟩)
    have hops : q.pattern.extractLsb' 24 8 = r.pattern.extractLsb' 24 8 :=
      (op_of_match hq hmatch).symm.trans ((opcodeOf_of_decode hi).symm.trans hop)
    obtain rfl : q = r := List.inj_on_of_nodup_map row_ops_nodup hq hr hops
    exact hmatch

/-- Acceptance tells a VERIFY word by decoding it, the statement by its row: 0x60 is the opcode of VERIFY alone. -/
theorem isVerifyWord_iff (w : Word) : isVerifyWord w = true ↔ w &&& 0xFF0000FF#32 = 0x60000000#32 := by
  have hverify := match_iff_decode_opcode (r := ⟨0x60000000, 0xFF0000FF⟩) (by decide) w
  refine Iff.trans ?_ hverify.symm
  rw [isVerifyWord]
  cases decode w with
  | none => simp
  | some i => cases i <;> simp [opcodeOf]

/-- The same for SIGN and KEYGEN words, by two rows. -/
theorem isAttemptWord_iff (w : Word) : isAttemptWord w = true
    ↔ w &&& 0xFF0000FF#32 = 0x52000000#32 ∨ w &&& 0xFF000FFF#32 = 0x40000000#32 := by
  have hsign := match_iff_decode_opcode (r := ⟨0x52000000, 0xFF0000FF⟩) (by decide) w
  have hkeygen := match_iff_decode_opcode (r := ⟨0x40000000, 0xFF000FFF⟩) (by decide) w
  refine Iff.trans ?_ (or_congr hsign hkeygen).symm
  rw [isAttemptWord]
  cases decode w with
  | none => simp
  | some i => cases i <;> simp [opcodeOf]

/-! ## Acceptance (R262, R41) -/

/-- A host write of `CMD`: a hazard while BUSY, and otherwise its own write (10_state R28, R41). -/
theorem hostCsrWrite_cmd (w : Word) (s : State) :
    hostCsrWrite 0x05#8 w s = if s.busy then s.setHaz else writeCmd w s := rfl

/-- A command word written while BUSY or while an error is latched is dropped. -/
theorem step_csrWrite_cmd_dropped {s : State} {w : Word} {rest : List Event} (h : s.busy = true ∨ s.err = true)
    (hagenda : s.agenda = .host (.csrWrite 0x05#8 w) :: rest) :
    step s = .next (State.setHaz { s with agenda := rest }) := by
  rw [step_host hagenda, hostTransaction, hostCsrWrite_cmd]
  by_cases hbusy : s.busy = true
  · rw [if_pos hbusy]
  · rw [if_neg hbusy, writeCmd, if_pos (h.resolve_left hbusy)]

/-- Settles O3: acceptance looks at the word's row, which is what its masks say. -/
theorem commandWriteIsAcceptedOrDropped : Obligations.CommandWriteIsAcceptedOrDropped := by
  refine fun s w rest => ⟨fun hagenda => ⟨fun hidle herr => ?_, fun h => step_csrWrite_cmd_dropped h hagenda⟩,
    fun hagenda => step_host hagenda⟩
  rw [step_csrWrite_cmd hidle herr hagenda]
  simp only [acceptCommand, isVerifyWord_iff, isAttemptWord_iff]

/-! ## The end of the error state (R275) -/

theorem writeStatus_clears_error {w : Word} (hw : w.getLsbD 2 = true) {s : State} (herr : s.err = true) :
    (writeStatus w s).errcode = 0#4 ∧ (writeStatus w s).errinfo = 0#32 := by
  simp [herr, hw]

theorem writeStatus_keeps_no_error (w : Word) {s : State} (herr : s.err = false) :
    (writeStatus w s).errcode = s.errcode ∧ (writeStatus w s).errinfo = s.errinfo := by
  simp [herr]

theorem softReset_clears_error (s : State) :
    (softReset s).err = false ∧ (softReset s).errcode = 0#4 ∧ (softReset s).errinfo = 0#32 := by
  unfold softReset
  split <;> exact ⟨rfl, rfl, rfl⟩

/-- Settles O6: ERR is 0 after the write in either case, which is what the next command needs. -/
theorem errorClearEndsTheErrorState : Obligations.ErrorClearEndsTheErrorState := by
  refine ⟨fun s w rest hagenda hw => ?_, softReset_clears_error, fun _ => ⟨rfl, rfl, rfl⟩⟩
  have hclear : (writeStatus w { s with agenda := rest }).err = false := by simp [hw]
  refine ⟨_, step_csrWrite_status hagenda, fun herr => ⟨hclear, writeStatus_clears_error hw herr⟩,
    fun herr => ⟨hclear, writeStatus_keeps_no_error w (s := { s with agenda := rest }) herr⟩, fun _ => rfl, fun _ => rfl,
    fun _ => rfl, ⟨⟨rfl, rfl, rfl, rfl, rfl⟩, rfl, rfl⟩, ⟨rfl, rfl, rfl⟩, rfl, rfl, rfl, fun c rest' hidle hrest => ?_⟩
  exact ⟨_, step_csrWrite_cmd (s := writeStatus w { s with agenda := rest }) hidle hclear hrest, rfl, rfl⟩

/-! ## The interrupt level (R280) -/

/-- The level is low exactly when neither bit is both set and enabled. -/
theorem irq_eq_false_iff (s : State) :
    s.irq = false ↔ (s.done = false ∨ s.ieDone = false) ∧ (s.err = false ∨ s.ieErr = false) := by
  rw [State.irq, Bool.or_eq_false_iff, Bool.and_eq_false_iff, Bool.and_eq_false_iff]

/-- Settles O7: each way of clearing the level clears one factor of both terms. -/
theorem irqIsALevelOfDoneAndErr : Obligations.IrqIsALevelOfDoneAndErr := by
  refine ⟨fun _ => rfl, fun _ => rfl, fun s hdone => irq_of_done hdone rfl, fun s => ?_, fun s => ?_, fun s w herr => ?_⟩
  · exact (irq_eq_false_iff _).2 ⟨.inl (by simp), .inl (by simp)⟩
  · exact (irq_eq_false_iff _).2 ⟨.inr rfl, .inr rfl⟩
  · exact (irq_eq_false_iff _).2 ⟨.inl rfl, .inl herr⟩

end Sys2Proof.Machine

/-! PROOFS of the statements about resets and hazards (70_reset_and_hazards): what a soft reset leaves of OMEM, the host
while BUSY, the STATUS write at the end of a command, and what every command and event does. -/
namespace Sys2Proof.Machine

/-! ## Every command and every event answers (R314) -/

theorem exec_answers_next (i : Instr) (s : State) : ∃ t, exec i s = .next t := by
  obtain ⟨_, t, hnext, -, -⟩ := exec_answers i s
  exact ⟨t, hnext⟩

/-- An illegal word, too, has its next state: it takes an error. -/
theorem engineTurn_of_illegal {s : State} (hbusy : s.busy = true) (hdecode : decode s.cmd = none) :
    engineTurn s = .next (raiseError .illegalCommand s) := by
  rw [engineTurn, if_pos hbusy, hdecode]

theorem engineTurn_answers_next (s : State) : ∃ t, engineTurn s = .next t := by
  cases hbusy : s.busy with
  | false => exact ⟨s, engineTurn_of_idle hbusy⟩
  | true =>
    cases hdecode : decode s.cmd with
    | some i => rw [engineTurn_of_decode hbusy hdecode]; exact exec_answers_next i s
    | none => exact ⟨_, engineTurn_of_illegal hbusy hdecode⟩

theorem handleEvent_answers_next {e : Event} (s : State) (hbus : ∀ a, e ≠ .bus a) : ∃ t, handleEvent e s = .next t := by
  cases e with
  | bus a => exact absurd rfl (hbus a)
  | engine => exact engineTurn_answers_next s
  | statusWriteAtEnd w => exact engineTurn_answers_next (writeStatus w s)
  | host | busAnswer | rngByte | progress | hardwareReset => exact ⟨_, rfl⟩

/-- Settles O55: the engine's turn answers, and so does every event but the bus access, whose stops are its own. -/
theorem everyCommandAndEventAnswersANextState : Obligations.EveryCommandAndEventAnswersANextState := by
  refine ⟨exec_answers_next, fun s hbus => ?_⟩
  cases hagenda : s.agenda with
  | nil => rw [step_of_agenda_nil hagenda]; exact engineTurn_answers_next s
  | cons e rest =>
    obtain ⟨t, ht⟩ := handleEvent_answers_next { s with agenda := rest } fun a he => hbus a rest (he ▸ hagenda)
    exact ⟨t, (nextEvent_cons hagenda).trans ht⟩

/-! ## The commands that draw (R322) -/

/-- The four commands that ask the RNG source for bytes. -/
def drawsRng : Instr → Bool
  | .fgen _ | .keygen _ _ _ | .drawv _ | .sign _ _ _ _ => true
  | _ => false

/-- The outcome is a next state with the RNG stream as it was or, for a command that draws, without some bytes of its
front. -/
inductive Takes (i : Instr) (s : State) : Out → Prop where
  | nothing {t : State} (hrng : t.rng = s.rng) : Takes i s (.next t)
  | front {t : State} (hdraws : drawsRng i = true) (hrng : t.rng <:+ s.rng) : Takes i s (.next t)

section Takes
variable {i : Instr} {s u : State}

/-- A check that fails draws nothing. -/
theorem takes_withChecks (hrng : u.rng = s.rng) {checks : List (Bool × ErrorKind)} {body : Out}
    (hbody : Takes i s body) : Takes i s (withChecks checks u body) := by
  rcases withChecks_cases checks u body with ⟨e, -, heq⟩ | ⟨-, heq⟩
  · rw [heq]; exact .nothing hrng
  · rw [heq]; exact hbody

theorem keyNext_rng_suffix {budget : Option Nat} {n mapSize : Nat} {r r' : KeyRun}
    (hnext : keyNext budget n mapSize r = some r') : r'.rng <:+ r.rng := by
  cases hstage : r.stage with
  | drawF =>
    obtain ⟨-, ⟨⟩⟩ := Option.ite_none_right_eq_some.1 ((keyNext_drawF hstage).symm.trans hnext)
    exact List.drop_suffix _ _
  | test =>
    rw [keyNext_test hstage] at hnext
    split at hnext <;> (cases hnext; exact List.suffix_rfl)
  | drawT =>
    obtain ⟨-, ⟨⟩⟩ := Option.ite_none_right_eq_some.1 ((keyNext_drawT hstage).symm.trans hnext)
    exact List.drop_suffix _ _
  | invert =>
    cases hinv : minv n r.t with
    | none => cases (keyNext_invert_singular hstage hinv).symm.trans hnext; exact List.suffix_rfl
    | some e => cases (keyNext_invert_invertible hstage hinv).symm.trans hnext; exact List.suffix_rfl
  | found => cases (keyNext_ended (.inl hstage)).symm.trans hnext
  | exhausted => cases (keyNext_ended (.inr hstage)).symm.trans hnext

theorem keyRun_rng_suffix (budget : Option Nat) (n mapSize fuel : Nat) (r : KeyRun) :
    (keyRun budget n mapSize fuel r).rng <:+ r.rng := by
  induction fuel generalizing r with
  | zero => exact List.suffix_rfl
  | succ fuel ih =>
    cases hnext : keyNext budget n mapSize r with
    | none => rw [keyRun_of_none hnext]
    | some r' => rw [keyRun_of_some hnext]; exact (ih r').trans (keyNext_rng_suffix hnext)

theorem SignArrow.rng_suffix {v m : Nat} {f : List Poly} {tgt : Vec} {r q : SignRun} (h : SignArrow v m f tgt r q) :
    q.rng <:+ r.rng := by
  cases h with
  | draw => exact List.drop_suffix _ _
  | build | solvable | singular | exhausted | retry => exact List.suffix_rfl

theorem signRunFor_rng_suffix (s : State) (pf pt : PReg) (fuel : Nat) : (s.signRunFor pf pt fuel).rng <:+ s.rng :=
  signRun_induction (P := fun r => r.rng <:+ s.rng) (fun _ _ harrow h => harrow.rng_suffix.trans h) List.suffix_rfl fuel

theorem keygen_takes (pf pt pi : PReg) : Takes (.keygen pf pt pi) s (execKeygen pf pt pi s) := by
  have hrun : (s.keyRunFor s.keyFuel).rng <:+ s.rng := keyRun_rng_suffix ..
  refine takes_withChecks (s := s) (u := { s with attempt := 0#32 }) rfl ?_
  dsimp only
  split
  case h_1 | h_2 => exact .front rfl hrun
  all_goals exact .nothing rfl

theorem sign_takes (ps pf pi pt : PReg) : Takes (.sign ps pf pi pt) s (execSign ps pf pi pt s) := by
  have hrun := signRunFor_rng_suffix s pf pt signFuel
  refine takes_withChecks (s := s) (u := { s with attempt := 0#32, phase := .idle }) rfl ?_
  dsimp only
  split
  case h_1 | h_2 => exact .front rfl hrun
  all_goals exact .nothing rfl

theorem writePlainCsr_rng (c : Csr) (w : Word) (s : State) : (writePlainCsr c w s).rng = s.rng := by cases c <;> rfl

/-- Only the draws of FGEN and DRAWV and the runs of KEYGEN and SIGN touch the stream. -/
theorem exec_takes (i : Instr) (s : State) : Takes i s (exec i s) := by
  cases i with
  | nop | gli | gmv | pli | plui | paddi | pmv | fadd | fsub | fmul => exact .nothing rfl
  | gld | gst | finv | mvmul | peval | pevala | buildsys => exact takes_withChecks rfl (.nothing rfl)
  | verify pf pm pt ps => exact takes_withChecks (s := s) (u := { s with valid := false }) rfl (.nothing rfl)
  | csrw csr imm16 => exact takes_withChecks rfl (.nothing (writePlainCsr_rng ..))
  | minv | msolve =>
    refine takes_withChecks rfl ?_
    split <;> exact .nothing rfl
  | fgen | drawv =>
    refine takes_withChecks rfl ?_
    rcases draw_cases s _ with ⟨-, hdraw⟩ | ⟨-, hdraw⟩
    · rw [hdraw]; exact .nothing rfl
    · rw [hdraw]; exact .front rfl (List.drop_suffix _ _)
  | keygen pf pt pi => exact keygen_takes pf pt pi
  | sign ps pf pi pt => exact sign_takes ps pf pi pt

end Takes

theorem exists_drop_of_suffix {l bytes : List Byte} (h : l <:+ bytes) : ∃ k, k ≤ bytes.length ∧ l = bytes.drop k :=
  ⟨_, Nat.sub_le _ _, List.suffix_iff_eq_drop.1 h⟩

theorem drawsRng_eq_false {i : Instr} (hfgen : ∀ a, i ≠ .fgen a) (hkeygen : ∀ a b c, i ≠ .keygen a b c)
    (hdrawv : ∀ a, i ≠ .drawv a) (hsign : ∀ a b c d, i ≠ .sign a b c d) : drawsRng i = false := by
  cases i with
  | fgen => exact absurd rfl (hfgen _)
  | keygen => exact absurd rfl (hkeygen _ _ _)
  | drawv => exact absurd rfl (hdrawv _)
  | sign => exact absurd rfl (hsign _ _ _ _)
  | _ => rfl

/-- Settles O56. -/
theorem onlyFourCommandsDraw : Obligations.OnlyFourCommandsDraw := by
  intro i s t hexec
  have htakes := exec_takes i s
  rw [hexec] at htakes
  cases htakes with
  | nothing hrng => exact ⟨exists_drop_of_suffix (hrng ▸ List.suffix_rfl), fun _ _ _ _ => hrng⟩
  | front hdraws hrng =>
    refine ⟨exists_drop_of_suffix hrng, fun hfgen hkeygen hdrawv hsign => ?_⟩
    rw [drawsRng_eq_false hfgen hkeygen hdrawv hsign] at hdraws
    cases hdraws

/-! ## The soft reset and OMEM (R302) -/

/-- The regions the model clobbers are those that each command's rule lists. -/
theorem destRegions_eq_listedRegions (i : Instr) (s : State) : destRegions i s = listedRegions s i := by
  cases i <;> rfl

theorem flightRegions_of_decode {i : Instr} {s : State} (h : decode s.cmd = some i) :
    s.flightRegions = listedRegions s i := by
  rw [State.flightRegions, h]
  exact destRegions_eq_listedRegions i s

/-- Unspecified bytes stay inside their region, cut off where OMEM ends (93 U3). -/
theorem clobber_sameOmemOutside (s : State) (q : Nat × Nat) : SameOmemOutside q.1 q.2 s (s.clobber q) := by
  intro a hout
  refine writeBytes_sameOmemOutside s q.1 _ a fun hin => hout ?_
  rw [List.length_map, List.length_range] at hin
  omega

theorem omemByte_clobberAll {regions : List (Nat × Nat)} {a : Nat}
    (hout : ∀ q ∈ regions, ¬ (q.1 ≤ a ∧ a < q.1 + q.2)) (s : State) :
    (s.clobberAll regions).omemByte a = s.omemByte a := by
  induction regions generalizing s with
  | nil => rfl
  | cons q rest ih =>
    obtain ⟨hq, hrest⟩ := List.forall_mem_cons.1 hout
    exact (ih hrest (s.clobber q)).trans (clobber_sameOmemOutside s q a hq)

theorem clobberAll_rng (regions : List (Nat × Nat)) (s : State) : (s.clobberAll regions).rng = s.rng := by
  induction regions generalizing s with
  | nil => rfl
  | cons q rest ih => exact ih (s.clobber q)

theorem softReset_of_idle {s : State} (h : s.busy = false) : softReset s = s.resetRegisters := if_neg (by simp [h])

theorem softReset_of_busy {s : State} (h : s.busy = true) :
    softReset s = (s.dropDrawn.clobberAll s.flightRegions).resetRegisters := if_pos h

theorem softReset_busy (s : State) : (softReset s).busy = false := by
  unfold softReset
  split <;> rfl

/-- The reset of the registers after the unspecified bytes leaves OMEM outside the regions as it was. -/
theorem omemByte_softReset {s : State} (hbusy : s.busy = true) {a : Nat}
    (hout : ∀ q ∈ s.flightRegions, ¬ (q.1 ≤ a ∧ a < q.1 + q.2)) : (softReset s).omemByte a = s.omemByte a := by
  rw [softReset_of_busy hbusy]
  exact omemByte_clobberAll hout s.dropDrawn

theorem softReset_rng_drop {s : State} (hbusy : s.busy = true) :
    ∃ k, k ≤ s.rng.length ∧ (softReset s).rng = s.rng.drop k := by
  rw [softReset_of_busy hbusy, resetRegisters_rng, clobberAll_rng]
  exact dropDrawn_rng_drop s

theorem mem_flightRegions {s : State} {q : Nat × Nat} (h : q ∈ s.flightRegions) :
    ∃ i, decode s.cmd = some i ∧ q ∈ listedRegions s i := by
  cases hdecode : decode s.cmd with
  | some i => exact ⟨i, rfl, flightRegions_of_decode hdecode ▸ h⟩
  | none => rw [State.flightRegions, hdecode] at h; cases h

/-- Settles O2. -/
theorem softResetPreservesOmem : Obligations.SoftResetPreservesOmem := by
  intro s w rest hagenda hsrst
  refine ⟨_, step_softReset hagenda hsrst, softReset_busy _, fun hidle => ?_, fun hbusy => ⟨fun a hout => ?_,
    fun i hdecode => flightRegions_of_decode hdecode, softReset_rng_drop (s := { s with agenda := rest }) hbusy⟩⟩
  · rw [softReset_of_idle (s := { s with agenda := rest }) hidle]
    exact ⟨fun _ => rfl, rfl⟩
  · refine omemByte_softReset (s := { s with agenda := rest }) hbusy fun q hq => ?_
    obtain ⟨i, hdecode, hlisted⟩ := mem_flightRegions hq
    exact hout i hdecode q hlisted

/-! ## The host while BUSY (R310, R312) -/

/-- `CTRL` and `STATUS` stand at one index each. -/
theorem csrOfIndex_ne_ctrl_status {idx : BitVec 8} (hctrl : idx ≠ 0x01#8) (hstatus : idx ≠ 0x02#8) :
    csrOfIndex idx ≠ .ctrl ∧ csrOfIndex idx ≠ .status := by
  revert idx; decide

/-- A CSR write that must wait for the end of the command is dropped. -/
theorem hostCsrWrite_hazard {s : State} {idx : BitVec 8} (hbusy : s.busy = true) (hctrl : idx ≠ 0x01#8)
    (hstatus : idx ≠ 0x02#8) (w : Word) : hostCsrWrite idx w s = s.setHaz := by
  obtain ⟨hc, hs⟩ := csrOfIndex_ne_ctrl_status hctrl hstatus
  unfold hostCsrWrite
  split
  · contradiction
  · contradiction
  · exact if_pos hbusy

/-- Settles O5: each transaction is the next step, and its own lemma says what it changes. -/
theorem busyHazardSetsHazAndNothingElse : Obligations.BusyHazardSetsHazAndNothingElse := by
  intro s rest hbusy
  refine ⟨fun idx w hctrl hstatus hagenda => ?_, fun addr b hagenda => step_memWrite_ignored hagenda (.inl hbusy),
    fun addr hagenda => ⟨_, _, step_memRead_busy hagenda hbusy⟩, fun idx hagenda => ⟨_, step_host hagenda⟩,
    fun w hsrst hagenda => ?_, fun w hagenda => ?_⟩
  · exact (step_host hagenda).trans
      (congrArg _ (hostCsrWrite_hazard (s := { s with agenda := rest }) hbusy hctrl hstatus w))
  · rw [step_csrWrite_ctrl hagenda, writeCtrl, hsrst]
    rfl
  · rw [step_csrWrite_status hagenda]
    simp [writeStatus]

/-! ## The STATUS write at the end of a command (R312)

With ERR 0 the write changes DONE and HAZ at most, and no command looks at either: a turn of the engine after the write
is the turn without it, but for these two flags. -/

/-- Other values of DONE and HAZ. -/
def State.withDoneHaz (s : State) (done haz : Bool) : State := { s with done := done, haz := haz }

theorem writeStatus_of_no_error (w : Word) {s : State} (herr : s.err = false) :
    writeStatus w s = s.withDoneHaz (s.done && !w.getLsbD 1) (s.haz && !w.getLsbD 4) := by
  simp [writeStatus, State.withDoneHaz, herr]

/-- Two outcomes are next states that differ in DONE and HAZ at most. -/
inductive Alike : Out → Out → Prop where
  | next (u : State) (done haz : Bool) : Alike (.next u) (.next (u.withDoneHaz done haz))

section Alike
variable (s : State) (done haz : Bool)

/-- The checks are the same ones, and the error they raise sets DONE in both. -/
theorem alike_withChecks {u : State} {checks : List (Bool × ErrorKind)} {body body' : Out} (hbody : Alike body body') :
    Alike (withChecks checks u body) (withChecks checks (u.withDoneHaz done haz) body') := by
  unfold withChecks
  split
  · exact .next _ true haz
  · exact hbody

/-! What the commands read of a state with other values of DONE and HAZ. -/

theorem withDoneHaz_rows : (s.withDoneHaz done haz).rows = s.rows := rfl

theorem withDoneHaz_vDim : (s.withDoneHaz done haz).vDim = s.vDim := rfl

theorem withDoneHaz_mapSize : (s.withDoneHaz done haz).mapSize = s.mapSize := rfl

theorem withDoneHaz_readMat (r : PReg) (rows cols : Nat) :
    (s.withDoneHaz done haz).readMat r rows cols = s.readMat r rows cols := rfl

theorem withDoneHaz_keyRun : (s.withDoneHaz done haz).keyRunFor (s.withDoneHaz done haz).keyFuel
    = s.keyRunFor s.keyFuel := rfl

theorem withDoneHaz_signRunFor (pf pt : PReg) (fuel : Nat) :
    (s.withDoneHaz done haz).signRunFor pf pt fuel = s.signRunFor pf pt fuel := rfl

theorem withDoneHaz_draw (k : Nat) : (s.withDoneHaz done haz).draw k
    = (s.draw k).map fun x => (x.1, x.2.withDoneHaz done haz) := by
  rcases Nat.lt_or_ge s.rng.length k with hshort | hbytes
  · rw [draw_of_short hshort, draw_of_short (s := s.withDoneHaz done haz) hshort]
    rfl
  · rw [draw_of_enough hbytes, draw_of_enough (s := s.withDoneHaz done haz) hbytes]
    rfl

theorem keygen_alike (pf pt pi : PReg) :
    Alike (execKeygen pf pt pi s) (execKeygen pf pt pi (s.withDoneHaz done haz)) := by
  refine alike_withChecks done haz (u := { s with attempt := 0#32 }) ?_
  rw [withDoneHaz_keyRun]
  dsimp only
  cases (s.keyRunFor s.keyFuel).stage with
  | found | exhausted => exact .next _ true haz
  | drawF | test | drawT | invert => exact .next _ done haz

theorem sign_alike (ps pf pi pt : PReg) :
    Alike (execSign ps pf pi pt s) (execSign ps pf pi pt (s.withDoneHaz done haz)) := by
  refine alike_withChecks done haz (u := { s with attempt := 0#32, phase := .idle }) ?_
  rw [withDoneHaz_signRunFor]
  dsimp only
  cases (s.signRunFor pf pt signFuel).phase with
  | success | failure => exact .next _ true haz
  | idle | drawVinegar | buildSystem | solve | retry => exact .next _ done haz

theorem writePlainCsr_withDoneHaz (c : Csr) (w : Word) :
    writePlainCsr c w (s.withDoneHaz done haz) = (writePlainCsr c w s).withDoneHaz done haz := by
  cases c <;> rfl

/-- No command looks at DONE or HAZ. -/
theorem exec_alike (i : Instr) : Alike (exec i s) (exec i (s.withDoneHaz done haz)) := by
  cases i with
  | nop | gli | gmv | pli | plui | paddi | pmv | fadd | fsub | fmul => exact .next _ true haz
  | gld | gst | finv | mvmul | peval | pevala | buildsys =>
    exact alike_withChecks done haz (u := s) (.next _ true haz)
  | csrw csr imm16 =>
    refine alike_withChecks done haz (u := s) ?_
    rw [writePlainCsr_withDoneHaz]
    exact .next _ true haz
  | verify => exact alike_withChecks done haz (u := { s with valid := false }) (.next _ true haz)
  | minv | msolve =>
    refine alike_withChecks done haz (u := s) ?_
    rw [withDoneHaz_rows, withDoneHaz_readMat]
    split <;> exact .next _ true haz
  | fgen | drawv =>
    refine alike_withChecks done haz (u := s) ?_
    simp only [withDoneHaz_mapSize, withDoneHaz_vDim, withDoneHaz_draw]
    rcases draw_cases s _ with ⟨-, hdraw⟩ | ⟨-, hdraw⟩
    · rw [hdraw]; exact .next s done haz
    · rw [hdraw]; exact .next _ true haz
  | keygen pf pt pi => exact keygen_alike s done haz pf pt pi
  | sign ps pf pi pt => exact sign_alike s done haz ps pf pi pt

theorem engineTurn_alike : Alike (engineTurn s) (engineTurn (s.withDoneHaz done haz)) := by
  cases hbusy : s.busy with
  | false =>
    rw [engineTurn_of_idle hbusy, engineTurn_of_idle (s := s.withDoneHaz done haz) hbusy]
    exact .next s done haz
  | true =>
    cases hdecode : decode s.cmd with
    | some i =>
      rw [engineTurn_of_decode hbusy hdecode, engineTurn_of_decode (s := s.withDoneHaz done haz) hbusy hdecode]
      exact exec_alike s done haz i
    | none =>
      rw [engineTurn_of_illegal hbusy hdecode, engineTurn_of_illegal (s := s.withDoneHaz done haz) hbusy hdecode]
      exact .next _ true haz

end Alike

/-- A command that a turn ends, completed or by an error, leaves DONE set (R263, R270). -/
theorem done_of_engineTurn_ended {s t : State} (hbusy : s.busy = true) (hturn : engineTurn s = .next t)
    (hended : t.busy = false) : t.done = true := by
  cases hdecode : decode s.cmd with
  | none =>
    cases (engineTurn_of_illegal hbusy hdecode).symm.trans hturn
    rfl
  | some i =>
    obtain ⟨u, hworks, hleaves⟩ := exec_next ((engineTurn_of_decode hbusy hdecode).symm.trans hturn)
    cases hleaves with
    | complete | fault => rfl
    | wait k =>
      obtain ⟨hstays, -⟩ := hworks.life
      exact absurd (hended.symm.trans (hstays.trans hbusy)) (by decide)

/-- Settles O4: the write comes first, and the end of the command sets its flags after it. -/
theorem coincidingClearDoesNotLoseTheEnd : Obligations.CoincidingClearDoesNotLoseTheEnd := by
  intro s t w rest hagenda hbusy herr hstep hended
  have hturn : engineTurn (writeStatus w { s with agenda := rest }) = .next t :=
    (nextEvent_cons hagenda).symm.trans hstep
  have hdone : t.done = true :=
    done_of_engineTurn_ended (s := writeStatus w { s with agenda := rest }) hbusy hturn hended
  refine ⟨hdone, fun u hplain hraised => ?_⟩
  have halike := engineTurn_alike { s with agenda := rest } (s.done && !w.getLsbD 1) (s.haz && !w.getLsbD 4)
  rw [← writeStatus_of_no_error w (s := { s with agenda := rest }) herr, hturn, hplain] at halike
  cases halike
  exact ⟨hraised, rfl, rfl⟩

end Sys2Proof.Machine
